-- ==== Sys2Proof/Word.lean ====
section
/-! DEFINITION. The word types of the core: what the spec treats as bits (R6, R29, R38, R39). -/

namespace Sys2Proof

/-- A drive level, target or step bound: an unsigned magnitude 0 .. 255 in exactly 8 bits
(R15, R41, decision D6). -/
abbrev Level := BitVec 8

/-- The host's control word `ctl`: bit 1 is `rst`, bit 0 is `tick` (R38). -/
abbrev Ctl := BitVec 2

/-- The label `slot[2:0]` of a sub-operation of TICK (R39). -/
abbrev SlotBits := BitVec 3

/-- A `RampState`: the forward and the reverse drive level of one motor (R15, R48). -/
structure Axis where
  fwd : Level
  rev : Level
  deriving DecidableEq, Repr

end Sys2Proof
end

