-- ==== Sys2Proof/Config.lean ====
section
/-! DEFINITION. The configuration constants, fixed before the hardware exists (R20, R21), the spec's test profile
P8 (R24), and the one free value of the model, the host's own choice of control words. -/

namespace Sys2Proof

/-- The read-only parameters `cfg` of R20. Speeds and accelerations are 8-bit operands, so V4 of R22 holds by type.
No operation writes a parameter (R21). -/
structure Cfg where
  /-- `HALF_PERIOD`, read by IND.TICK. -/
  halfPeriod : Nat
  /-- `ENABLE_ON_PERIOD`, read by GATE.TICK. -/
  enableOn : Nat
  /-- `ENABLE_OFF_PERIOD`, read by GATE.TICK. -/
  enableOff : Nat
  /-- `GUIDE_ON_PERIOD`, read by PULSE.TICK. -/
  guideOn : Nat
  /-- `GUIDE_OFF_PERIOD`, read by PULSE.TICK. -/
  guideOff : Nat
  /-- `SPOOL_SPEED`, read by UPD.SPOOL. -/
  spoolSpeed : Level
  /-- `SPOOL_ACCELERATION`, read by UPD.SPOOL. -/
  spoolAcc : Level
  /-- `GUIDE_SPEED`, read by UPD.GUIDE. -/
  guideSpeed : Level
  /-- `GUIDE_ACCELERATION`, read by UPD.GUIDE. -/
  guideAcc : Level
  /-- `CW`, the width of the three counters (decision D7, default 16). -/
  cw : Nat := 16
  /-- `TICK_INTERVAL` in milliseconds: timing only, read by no operation (R20, R96; log 15). -/
  tickIntervalMs : Nat := 100
  deriving DecidableEq, Repr

/-- `EP`, the enable gate's total period (R20). -/
def Cfg.enablePeriod (c : Cfg) : Nat := c.enableOn + c.enableOff

/-- `GP`, the guide pulse's total period (R20). -/
def Cfg.guidePeriod (c : Cfg) : Nat := c.guideOn + c.guideOff

/-- Profile `P8` of R24: a test profile of the spec, not a statement of any firmware's constants. -/
def Cfg.profileP8 : Cfg where
  halfPeriod := 20
  enableOn := 1200
  enableOff := 6000
  guideOn := 10
  guideOff := 30
  spoolSpeed := 0x40
  spoolAcc := 0x40
  guideSpeed := 0x80
  guideAcc := 0x80
  cw := 16
  tickIntervalMs := 100

/-- FREE VALUE (log 3, DESIGN CHOICE): the control word the host presents at its n-th own choice, when no word was
placed for the step. R68: the only freedom in an execution is the host's choice of control words. -/
opaque Config.hostCtl : Nat → Ctl

end Sys2Proof
end

