-- ==== Sys2Proof/Machine/CfgValid.lean ====
section
/-! DEFINITION. The configuration check of R22: V1 to V7. -/

namespace Sys2Proof.Machine

/-- `ceil(a / b)` for `b ≥ 1` (R6). -/
def ceilDiv (a b : Nat) : Nat := (a + b - 1) / b

/-- V1: the indicator's half period is at least 1 and fits the counter width. -/
abbrev CfgV1 (c : Cfg) : Prop := 1 ≤ c.halfPeriod ∧ c.halfPeriod ≤ 2 ^ c.cw - 1

/-- V2: the enable gate's total period is at least 1 and fits the counter width. -/
abbrev CfgV2 (c : Cfg) : Prop := 1 ≤ c.enablePeriod ∧ c.enablePeriod ≤ 2 ^ c.cw - 1

/-- V3: the guide pulse's total period is at least 1 and fits the counter width. -/
abbrev CfgV3 (c : Cfg) : Prop := 1 ≤ c.guidePeriod ∧ c.guidePeriod ≤ 2 ^ c.cw - 1

/-- V4: speeds and accelerations are in 0 .. 255; true by their type. -/
abbrev CfgV4 (c : Cfg) : Prop :=
  c.spoolSpeed.toNat ≤ 255 ∧ c.spoolAcc.toNat ≤ 255 ∧ c.guideSpeed.toNat ≤ 255 ∧ c.guideAcc.toNat ≤ 255

/-- V5: neither acceleration is 0. -/
abbrev CfgV5 (c : Cfg) : Prop := 1 ≤ c.spoolAcc.toNat ∧ 1 ≤ c.guideAcc.toNat

/-- V6: the spool's ramp from 0 ends within one on phase of the gate. -/
abbrev CfgV6 (c : Cfg) : Prop := ceilDiv c.spoolSpeed.toNat c.spoolAcc.toNat ≤ c.enableOn

/-- V7: the guide's ramp from 0 ends within one pulse and one on phase of the gate. -/
abbrev CfgV7 (c : Cfg) : Prop :=
  ceilDiv c.guideSpeed.toNat c.guideAcc.toNat ≤ min c.guideOn c.enableOn

/-- `CfgValid(cfg)` of R22. -/
abbrev CfgValid (c : Cfg) : Prop :=
  CfgV1 c ∧ CfgV2 c ∧ CfgV3 c ∧ CfgV4 c ∧ CfgV5 c ∧ CfgV6 c ∧ CfgV7 c

end Sys2Proof.Machine
end

