-- ==== Sys2Proof/Syntax.lean ====
section
/-! DEFINITION. The eleven operations of spec/opcode_table.json, and the requests by which an operation reaches
the machine. -/

namespace Sys2Proof

/-- One constructor per row of spec/opcode_table.json. The operands are those of R41 that are neither a register nor
a parameter of `cfg`. -/
inductive Instr where
  /-- HOLD (R65). -/
  | hold
  /-- TICK (R63). -/
  | tick
  /-- RESET (R66); `ctl[0]` is ignored (R75). -/
  | reset
  /-- IND.TICK, slot 0 (R54). -/
  | indTick
  /-- GATE.TICK, slot 1 (R57). -/
  | gateTick
  /-- UPD.SPOOL, slot 2 (R60); `enabled` is the result of slot 1 (log 6). -/
  | updSpool (enabled : Bool)
  /-- PULSE.TICK, slot 3 (R56). -/
  | pulseTick
  /-- UPD.GUIDE, slot 4 (R61); the operands are the results of slots 1 and 3 (log 6). -/
  | updGuide (enabled pulseActive : Bool)
  /-- NEXTLEVEL, a function unit (R45). -/
  | nextLevel (current target maxStep : Level)
  /-- UPDATEAXIS, a function unit (R48). -/
  | updateAxis (axis : Axis) (fwdTarget revTarget maxAcc : Level)
  /-- DCC.TICK, a function unit (R52). -/
  | dccTick (c on off : Nat)
  deriving DecidableEq, Repr

/-- The three formats of spec/30_encoding.md: R38, R39, R40. -/
inductive Format where
  | ctl
  | seq
  | fn
  deriving DecidableEq, Repr

/-- The five slots of TICK (R39). Labels 5, 6, 7 are unassigned and not representable here (R43). -/
inductive Slot where
  | ind
  | gate
  | spool
  | pulse
  | guide
  deriving DecidableEq, Repr

/-- What is presented to the machine for one step. The core takes `ctl` alone (R38); the other constructors are the
model's bench, which runs a sub-operation or a function unit by itself (R44's unit-level vectors, D22; log 5). -/
inductive Request where
  /-- The host's control word (R38). -/
  | ctl (w : Ctl)
  /-- Bench: a slot label with the two booleans that earlier slots would hand over (R39, R41). -/
  | seq (slot : SlotBits) (enabled pulseActive : Bool)
  /-- Bench: `nextLevel(current, target, maxStep)` (R44). -/
  | nextLevel (current target maxStep : Level)
  /-- Bench: `updateAxis((fwd, rev), fwdTarget, revTarget, maxAcc)` (R44). -/
  | updateAxis (axis : Axis) (fwdTarget revTarget maxAcc : Level)
  /-- Bench: one `tick()` of `DCC[ON, OFF]` from counter value c (R44). -/
  | dccTick (c on off : Nat)
  deriving DecidableEq, Repr

/-- The format of an operation (spec/opcode_table.json, "format"). -/
def Instr.format : Instr → Format
  | .hold | .tick | .reset => .ctl
  | .indTick | .gateTick | .updSpool _ | .pulseTick | .updGuide _ _ => .seq
  | .nextLevel _ _ _ | .updateAxis _ _ _ _ | .dccTick _ _ _ => .fn

/-- The format of a request. -/
def Request.format : Request → Format
  | .ctl _ => .ctl
  | .seq _ _ _ => .seq
  | .nextLevel _ _ _ | .updateAxis _ _ _ _ | .dccTick _ _ _ => .fn

end Sys2Proof
end

