-- ==== Sys2Proof/Machine/State.lean ====
section
/-! DEFINITION. The state of the machine, the reasons a step can stop, and the state after reset. -/

namespace Sys2Proof.Machine

/-- The synchronous exceptions of the core: none. R71: the complete table of exception causes is empty, and no
operation of the opcode table can fail (log 13: safe and unsafe cases are said there). -/
inductive Fault where
  deriving DecidableEq, Repr

/-- The three periodic counters (R11, R13, R14). -/
inductive Counter where
  | ind
  | gate
  | pulse
  deriving DecidableEq, Repr

/-- Why the machine gives a request no meaning. -/
inductive Refusal where
  /-- Raised by an arm of exec whose operation has no meaning yet; no arm does. Safe. -/
  | notModelled (mnemonic : String)
  /-- Raised by the step, and by every operation that reads `cfg`, when `CfgValid` fails: R72 and U1, there is no
  machine (log 8). Safe. -/
  | invalidConfig
  /-- Raised by TICK and by the operation of the counter named, when that counter is at or above its period: U3, D23
  (log 9). Safe. -/
  | counterOutOfRange (which : Counter)
  /-- Raised by DCC.TICK on operands outside the domain of R52: U2, U3 (log 10). Safe. -/
  | dutyOperandsOutOfRange
  /-- Raised by the step on a bench request whose slot label is 5, 6 or 7: R43, U8 (log 5). Safe. -/
  | unassignedSlot (slot : SlotBits)
  deriving DecidableEq, Repr

/-- What an operation hands to whoever invoked it (R6, R41); at the top level, the observation of R64. -/
inductive Ret where
  /-- HOLD, RESET, UPD.SPOOL and UPD.GUIDE return nothing (R60, R61, R64). -/
  | nothing
  /-- NEXTLEVEL's `next` (R45). -/
  | level (next : Level)
  /-- UPDATEAXIS's new pair (R48). -/
  | axis (pair : Axis)
  /-- DCC.TICK's phase and new counter value (R52). -/
  | duty (phase : Bool) (c : Nat)
  /-- IND.TICK's edge event (R54). -/
  | toggled (edge : Bool)
  /-- GATE.TICK's phase (R57). -/
  | enabled (phase : Bool)
  /-- PULSE.TICK's phase (R56). -/
  | pulseActive (phase : Bool)
  /-- TICK's observation (R64). -/
  | observation (toggled enabled pulseActive : Bool)
  deriving DecidableEq, Repr

/-- The eight registers of R10, the parameters they are read with (R20), and three fields of the model's own. -/
structure State where
  /-- The read-only parameters (R20, R21; log 1). -/
  cfg : Cfg
  /-- `ind_cnt` (R11). -/
  indCnt : Nat
  /-- `lit` (R12). -/
  lit : Bool
  /-- `gate_cnt` (R13). -/
  gateCnt : Nat
  /-- `pulse_cnt` (R14). -/
  pulseCnt : Nat
  /-- `spool_fwd` (R15). -/
  spoolFwd : Level
  /-- `spool_rev` (R15). -/
  spoolRev : Level
  /-- `guide_fwd` (R16). -/
  guideFwd : Level
  /-- `guide_rev` (R16). -/
  guideRev : Level
  /-- The model's own: the value the last operation returned (log 4). -/
  ret : Ret
  /-- The model's own: the requests placed for the next steps, oldest first (log 3, log 5). -/
  script : List Request
  /-- The model's own: how many control words the host has chosen freely (log 3). -/
  hostIx : Nat
  deriving DecidableEq, Repr

/-- The state right after RESET of a core built with `cfg` (R27, R84), with nothing placed for the next steps. -/
def State.resetWith (cfg : Cfg) : State where
  cfg := cfg
  indCnt := 0
  lit := false
  gateCnt := 0
  pulseCnt := 0
  spoolFwd := 0
  spoolRev := 0
  guideFwd := 0
  guideRev := 0
  ret := .nothing
  script := []
  hostIx := 0

/-- The state right after RESET (R27, R84), for the one configuration the spec writes out, profile P8 of R24
(DESIGN CHOICE, log 2). Statements about reset are made of `resetWith` for every valid `cfg`. -/
def State.reset : State := State.resetWith Cfg.profileP8

end Sys2Proof.Machine
end

