-- ==== Sys2Proof/Machine/Operands.lean ====
section
/-! DEFINITION. Operand assembly (R41): where each operation of a slot takes its numeric operands from. -/

namespace Sys2Proof.Machine

/-- A level operand read as the natural number it encodes: zero extension (R41). -/
def zext (v : Level) : Int := (v.toNat : Int)

/-- The spool motor's `RampState` (R15). -/
def State.spoolAxis (s : State) : Axis := ⟨s.spoolFwd, s.spoolRev⟩

/-- The guide motor's `RampState` (R16). -/
def State.guideAxis (s : State) : Axis := ⟨s.guideFwd, s.guideRev⟩

/-- The period a counter is compared with (R54, R56, R57). -/
def periodOf (c : Cfg) : Counter → Nat
  | .ind => c.halfPeriod
  | .gate => c.enablePeriod
  | .pulse => c.guidePeriod

/-- The register that holds a counter (R11, R13, R14). -/
def State.counter (s : State) : Counter → Nat
  | .ind => s.indCnt
  | .gate => s.gateCnt
  | .pulse => s.pulseCnt

/-- UPD.SPOOL's forward target (R60). -/
def spoolTarget (c : Cfg) (enabled : Bool) : Level := if enabled then c.spoolSpeed else 0

/-- UPD.GUIDE's forward target (R61): both booleans are needed to drive the guide. -/
def guideTarget (c : Cfg) (enabled pulseActive : Bool) : Level :=
  if enabled && pulseActive then c.guideSpeed else 0

/-- The reverse target of both motors is the constant 0 (R60, R61, decision D9). -/
def revTarget : Level := 0

end Sys2Proof.Machine
end

