-- ==== Sys2Proof/Machine/Flags.lean ====
section
/-! DEFINITION. The condition values of R18: the phase of a two-phase counter and its two uses. -/

namespace Sys2Proof.Machine

/-- The phase of a two-phase counter: `c < ON`, on the count before it advances (R52). -/
def dutyPhase (c on : Nat) : Bool := decide (c < on)

/-- `enabled`, as the next GATE.TICK computes it; the port `enable_phase` (R18, R25). -/
def State.enabledNext (s : State) : Bool := dutyPhase s.gateCnt s.cfg.enableOn

/-- `pulse_active`, as the next PULSE.TICK computes it; the port `pulse_phase` (R18, R25). -/
def State.pulseNext (s : State) : Bool := dutyPhase s.pulseCnt s.cfg.guideOn

/-- `toggled`, as the next IND.TICK computes it: the advanced counter reaches HALF_PERIOD (R54). -/
def State.toggledNext (s : State) : Bool := decide (s.indCnt + 1 = s.cfg.halfPeriod)

end Sys2Proof.Machine
end

