-- ==== Sys2Proof/Machine/Ops.lean ====
section
/-! DEFINITION. The named operations over the registers: every write of a register goes through one of these, and so
do the two checks under which the spec gives an operation a meaning. The core takes no exception and returns from none
(R71, R76, R77), and has no memory (R28), so there is no operation for either. -/

namespace Sys2Proof.Machine

/-- Write `ind_cnt` and `lit` (IND.TICK and RESET only, R10). -/
def State.putInd (s : State) (c : Nat) (lit : Bool) : State := { s with indCnt := c, lit := lit }

/-- Write `gate_cnt` (GATE.TICK and RESET only, R10). -/
def State.putGate (s : State) (c : Nat) : State := { s with gateCnt := c }

/-- Write `pulse_cnt` (PULSE.TICK and RESET only, R10). -/
def State.putPulse (s : State) (c : Nat) : State := { s with pulseCnt := c }

/-- Write the spool motor's pair (UPD.SPOOL and RESET only, R15). -/
def State.putSpool (s : State) (a : Axis) : State := { s with spoolFwd := a.fwd, spoolRev := a.rev }

/-- Write the guide motor's pair (UPD.GUIDE and RESET only, R16). -/
def State.putGuide (s : State) (a : Axis) : State := { s with guideFwd := a.fwd, guideRev := a.rev }

/-- Hand a value to whoever invoked the operation (R6; log 4). -/
def State.answer (s : State) (r : Ret) : State := { s with ret := r }

/-- The counter is below its period (R26 I1 to I3), the premise under which its operation has a meaning (U3). -/
def State.inPeriod (s : State) (k : Counter) : Bool := decide (s.counter k < periodOf s.cfg k)

/-- An operation that reads `cfg` has a meaning only on a valid one (R72, U1; log 8). -/
def whenConfigured (s : State) (go : Host.Outcome State Fault Refusal) : Host.Outcome State Fault Refusal :=
  if CfgValid s.cfg then go else .refused .invalidConfig

/-- An operation that advances a counter has a meaning only below the counter's period (U3, D23; log 9). -/
def whenInPeriod (k : Counter) (s : State) (go : Host.Outcome State Fault Refusal) :
    Host.Outcome State Fault Refusal :=
  if s.inPeriod k then go else .refused (.counterOutOfRange k)

end Sys2Proof.Machine
end

