-- ==== Sys2Proof/WellFormed.lean ====
section
/-! DEFINITION. Which operations and requests the spec gives a meaning: the operand domain of DCC.TICK (R52) and the
assigned slot labels (R39, R43). Every other operand is in its domain by its type (R41). -/

namespace Sys2Proof

/-- The operands of R52: `c < ON + OFF` (hence `ON + OFF ≥ 1`) and `ON + OFF ≤ 2^CW − 1`. -/
def Instr.wellFormed (cw : Nat) : Instr → Bool
  | .dccTick c on off => decide (c < on + off) && decide (on + off ≤ 2 ^ cw - 1)
  | .hold | .tick | .reset | .indTick | .gateTick | .updSpool _ | .pulseTick | .updGuide _ _
  | .nextLevel _ _ _ | .updateAxis _ _ _ _ => true

/-- Slot labels 5, 6 and 7 are unassigned (R43); every other request selects an operation. -/
def Request.wellFormed : Request → Bool
  | .seq slot _ _ => decide (slot.toNat ≤ 4)
  | .ctl _ | .nextLevel _ _ _ | .updateAxis _ _ _ _ | .dccTick _ _ _ => true

end Sys2Proof
end

