-- ==== Sys2Proof/Machine/DutyCycleCounter.lean ====
section
/-! DEFINITION. DutyCycleCounter (spec/42_duty_cycle_counter.md): DCC.TICK, IND.TICK, PULSE.TICK and GATE.TICK. -/

namespace Sys2Proof.Machine

/-- A counter advanced by one, set to zero when the advanced value equals its period (R47 (d), R52, R54). -/
def advance (c period : Nat) : Nat := if c + 1 = period then 0 else c + 1

/-- DCC.TICK's results (R52): the phase on the old count, and the advanced count. -/
def dutyTick (c on off : Nat) : Bool × Nat := (dutyPhase c on, advance c (on + off))

/-- DCC.TICK run by itself, on the operand domain of R52 with the core's CW. -/
def execDccTick (c on off : Nat) (s : State) : Host.Outcome State Fault Refusal :=
  if (Instr.dccTick c on off).wellFormed s.cfg.cw then
    .next (s.answer (.duty (dutyTick c on off).1 (dutyTick c on off).2))
  else .refused .dutyOperandsOutOfRange

/-- Slot 0, IND.TICK (R54): advance first, then compare; the boundary flips `lit`. Returns `toggled`. -/
def slotInd (s : State) : Bool × State :=
  (s.toggledNext, s.putInd (advance s.indCnt s.cfg.halfPeriod) (if s.toggledNext then !s.lit else s.lit))

/-- Slot 1, GATE.TICK (R57): DCC.TICK on `gate_cnt`. Returns `enabled`. -/
def slotGate (s : State) : Bool × State :=
  let r := dutyTick s.gateCnt s.cfg.enableOn s.cfg.enableOff
  (r.1, s.putGate r.2)

/-- Slot 3, PULSE.TICK (R56): DCC.TICK on `pulse_cnt`. Returns `pulse_active`. -/
def slotPulse (s : State) : Bool × State :=
  let r := dutyTick s.pulseCnt s.cfg.guideOn s.cfg.guideOff
  (r.1, s.putPulse r.2)

/-- IND.TICK (R54). -/
def execIndTick (s : State) : Host.Outcome State Fault Refusal :=
  whenConfigured s (whenInPeriod .ind s (.next ((slotInd s).2.answer (.toggled (slotInd s).1))))

/-- GATE.TICK (R57). -/
def execGateTick (s : State) : Host.Outcome State Fault Refusal :=
  whenConfigured s (whenInPeriod .gate s (.next ((slotGate s).2.answer (.enabled (slotGate s).1))))

/-- PULSE.TICK (R56). -/
def execPulseTick (s : State) : Host.Outcome State Fault Refusal :=
  whenConfigured s (whenInPeriod .pulse s (.next ((slotPulse s).2.answer (.pulseActive (slotPulse s).1))))

end Sys2Proof.Machine
end

