-- ==== Sys2Proof/Machine/RampController.lean ====
section
/-! DEFINITION. RampController (spec/41_ramp_controller.md): NEXTLEVEL and UPDATEAXIS. -/

namespace Sys2Proof.Machine

/-- NEXTLEVEL (R45): the exact signed difference, clamped above by `maxStep` and not below, added to `current`. The
sum is always in 0 .. 255 (R46), so the narrowing at the end drops nothing. -/
def nextLevel (current target maxStep : Level) : Level :=
  let delta := zext target - zext current
  let step := if delta > zext maxStep then zext maxStep else delta
  BitVec.ofInt 8 (zext current + step)

/-- UPDATEAXIS (R48): both tests read the pair as it was before the call (decision D24). -/
def updateAxis (a : Axis) (fwdTarget revTarget maxAcc : Level) : Axis where
  fwd := if a.rev = 0 then nextLevel a.fwd fwdTarget maxAcc else a.fwd
  rev := if a.fwd = 0 then nextLevel a.rev revTarget maxAcc else a.rev

/-- NEXTLEVEL run by itself: total, no register read or written (R45). -/
def execNextLevel (current target maxStep : Level) (s : State) : Host.Outcome State Fault Refusal :=
  .next (s.answer (.level (nextLevel current target maxStep)))

/-- UPDATEAXIS run by itself: total on all operands, the pairs with both levels nonzero among them (R48, R73). -/
def execUpdateAxis (axis : Axis) (fwdTarget revTarget maxAcc : Level) (s : State) :
    Host.Outcome State Fault Refusal :=
  .next (s.answer (.axis (updateAxis axis fwdTarget revTarget maxAcc)))

end Sys2Proof.Machine
end

