-- ==== Sys2Proof/Machine/MotorDriver.lean ====
section
/-! DEFINITION. MotorDriver (spec/43_motor_driver.md): UPD.SPOOL and UPD.GUIDE. -/

namespace Sys2Proof.Machine

/-- Slot 2, UPD.SPOOL (R60). -/
def slotSpool (enabled : Bool) (s : State) : State :=
  s.putSpool (updateAxis s.spoolAxis (spoolTarget s.cfg enabled) revTarget s.cfg.spoolAcc)

/-- Slot 4, UPD.GUIDE (R61). -/
def slotGuide (enabled pulseActive : Bool) (s : State) : State :=
  s.putGuide (updateAxis s.guideAxis (guideTarget s.cfg enabled pulseActive) revTarget s.cfg.guideAcc)

/-- UPD.SPOOL (R60); it returns nothing. -/
def execUpdSpool (enabled : Bool) (s : State) : Host.Outcome State Fault Refusal :=
  whenConfigured s (.next ((slotSpool enabled s).answer .nothing))

/-- UPD.GUIDE (R61); it returns nothing. -/
def execUpdGuide (enabled pulseActive : Bool) (s : State) : Host.Outcome State Fault Refusal :=
  whenConfigured s (.next ((slotGuide enabled pulseActive s).answer .nothing))

end Sys2Proof.Machine
end

