-- ==== Sys2Proof/Machine/ControlLoop.lean ====
section
/-! DEFINITION. ControlLoop (spec/44_control_loop.md): TICK, HOLD and RESET. -/

namespace Sys2Proof.Machine

/-- The five slots of TICK in their order, each reading the registers as the earlier ones left them, and the
observation (R63, R64). -/
def tickSlots (s : State) : State :=
  let ind := slotInd s
  let gate := slotGate ind.2
  let spool := slotSpool gate.1 gate.2
  let pulse := slotPulse spool
  let guide := slotGuide gate.1 pulse.1 pulse.2
  guide.answer (.observation ind.1 gate.1 pulse.1)

/-- TICK (R63): one atomic operation (decision D2). -/
def execTick (s : State) : Host.Outcome State Fault Refusal :=
  whenConfigured s (whenInPeriod .ind s (whenInPeriod .gate s (whenInPeriod .pulse s (.next (tickSlots s)))))

/-- HOLD (R65): no register and no port changes; it has no observation (R64). -/
def execHold (s : State) : Host.Outcome State Fault Refusal := .next (s.answer .nothing)

/-- The registers of RESET (R66), from any state; `cfg` is neither read nor changed (R85). -/
def State.resetRegisters (s : State) : State :=
  ((((s.putInd 0 false).putGate 0).putPulse 0).putSpool ⟨0, 0⟩).putGuide ⟨0, 0⟩

/-- RESET (R66); it has no observation (R64). -/
def execReset (s : State) : Host.Outcome State Fault Refusal := .next (s.resetRegisters.answer .nothing)

end Sys2Proof.Machine
end

