-- ==== Sys2Proof/Machine/Dispatch.lean ====
section
/-! DEFINITION. The dispatch of every operation to its meaning, one arm per row of spec/opcode_table.json. -/

namespace Sys2Proof.Machine

def exec (i : Instr) (s : State) : Host.Outcome State Fault Refusal :=
  match i with
  | .hold => Sys2Proof.Machine.execHold s
  | .tick => Sys2Proof.Machine.execTick s
  | .reset => Sys2Proof.Machine.execReset s
  | .indTick => Sys2Proof.Machine.execIndTick s
  | .gateTick => Sys2Proof.Machine.execGateTick s
  | .updSpool enabled => Sys2Proof.Machine.execUpdSpool enabled s
  | .pulseTick => Sys2Proof.Machine.execPulseTick s
  | .updGuide enabled pulseActive => Sys2Proof.Machine.execUpdGuide enabled pulseActive s
  | .nextLevel current target maxStep => Sys2Proof.Machine.execNextLevel current target maxStep s
  | .updateAxis axis fwdTarget revTarget maxAcc => Sys2Proof.Machine.execUpdateAxis axis fwdTarget revTarget maxAcc s
  | .dccTick c on off => Sys2Proof.Machine.execDccTick c on off s

end Sys2Proof.Machine
end

