-- ==== Sys2Proof/Decode.lean ====
section
/-! DEFINITION. Decoding a request to an operation, total and rejecting by name, and the encoder beside it
(R38 to R43). -/

namespace Sys2Proof

/-- Why a request selects no operation. -/
inductive Reject where
  /-- A slot label of 5, 6 or 7 (R43, U8). -/
  | unassignedSlot (slot : SlotBits)
  deriving DecidableEq, Repr

/-- The control word (R38, R42): `rst` wins over `tick` (R75). -/
def decodeCtl (w : Ctl) : Instr :=
  if w.getLsbD 1 then .reset else if w.getLsbD 0 then .tick else .hold

/-- A row of the CTL opcode map: the operation, `match` and `mask` (R42). -/
structure CtlRow where
  op : Instr
  pattern : Ctl
  mask : Ctl
  deriving DecidableEq, Repr

/-- The CTL rows of spec/opcode_table.json (R42). -/
def ctlRows : List CtlRow :=
  [⟨.hold, 0b00, 0b11⟩, ⟨.tick, 0b01, 0b11⟩, ⟨.reset, 0b10, 0b10⟩]

/-- R42: a word `w` selects the row with `w AND mask = match`. -/
def CtlRow.selects (r : CtlRow) (w : Ctl) : Bool := decide (w &&& r.mask = r.pattern)

/-- The slot a label names (R39); the label is compared on all three bits (R42). -/
def decodeSlot (w : SlotBits) : Option Slot :=
  match w.toNat with
  | 0 => some .ind
  | 1 => some .gate
  | 2 => some .spool
  | 3 => some .pulse
  | 4 => some .guide
  | _ => none

/-- The label of a slot (R39). -/
def Slot.label : Slot → SlotBits
  | .ind => 0b000
  | .gate => 0b001
  | .spool => 0b010
  | .pulse => 0b011
  | .guide => 0b100

/-- The sub-operation of a slot, with the booleans earlier slots hand over (R39, R41). -/
def Slot.operation (enabled pulseActive : Bool) : Slot → Instr
  | .ind => .indTick
  | .gate => .gateTick
  | .spool => .updSpool enabled
  | .pulse => .pulseTick
  | .guide => .updGuide enabled pulseActive

/-- The operation a request selects. -/
def decode : Request → Except Reject Instr
  | .ctl w => .ok (decodeCtl w)
  | .seq w enabled pulseActive =>
    match decodeSlot w with
    | some slot => .ok (slot.operation enabled pulseActive)
    | none => .error (.unassignedSlot w)
  | .nextLevel current target maxStep => .ok (.nextLevel current target maxStep)
  | .updateAxis axis fwdTarget revTarget maxAcc => .ok (.updateAxis axis fwdTarget revTarget maxAcc)
  | .dccTick c on off => .ok (.dccTick c on off)

/-- The request that selects an operation. RESET takes its canonical spelling `10` (R42, R44); a boolean operand that
the slot does not read is false (log 6, log 16). -/
def encode : Instr → Request
  | .hold => .ctl 0b00
  | .tick => .ctl 0b01
  | .reset => .ctl 0b10
  | .indTick => .seq Slot.ind.label false false
  | .gateTick => .seq Slot.gate.label false false
  | .updSpool enabled => .seq Slot.spool.label enabled false
  | .pulseTick => .seq Slot.pulse.label false false
  | .updGuide enabled pulseActive => .seq Slot.guide.label enabled pulseActive
  | .nextLevel current target maxStep => .nextLevel current target maxStep
  | .updateAxis axis fwdTarget revTarget maxAcc => .updateAxis axis fwdTarget revTarget maxAcc
  | .dccTick c on off => .dccTick c on off

/-- The request written by a word `w` of `nbits` bits numbered as spec/opcode_table.json numbers them: 3 bits are a
slot label with both booleans 0; any other width is a control word when `w` fits in two bits, and, in a whole byte
that does not, a slot label (log 7). A function unit has no bits (R40). -/
def requestOfTableWord (nbits w : Nat) : Option Request :=
  if nbits = 3 then
    if w < 8 then some (.seq (BitVec.ofNat 3 w) false false) else none
  else if nbits = 2 ∨ nbits = 8 then
    if w < 4 then some (.ctl (BitVec.ofNat 2 w))
    else if nbits = 8 ∧ w < 8 then some (.seq (BitVec.ofNat 3 w) false false)
    else none
  else none

/-- The operation the decoder reads from a table word, none where it refuses. -/
def decodeTableWord (nbits w : Nat) : Option Instr :=
  match requestOfTableWord nbits w with
  | none => none
  | some r =>
    match decode r with
    | .ok i => some i
    | .error _ => none

end Sys2Proof
end

