-- ==== Sys2Proof/Machine/Fetch.lean ====
section
/-! DEFINITION. How a step gets its request, how a script of R44 is written and placed, and how a word of the opcode
table is placed. -/

namespace Sys2Proof.Machine

/-- The request of the next step, and the state after it is taken: the oldest placed request, or, with none placed,
the control word the host then chooses (R38, R68; log 3). -/
def State.takeRequest (s : State) : Request × State :=
  match s.script with
  | r :: rest => (r, { s with script := rest })
  | [] => (.ctl (Config.hostCtl s.hostIx), { s with hostIx := s.hostIx + 1 })

/-- The name under which the machine refuses what the decoder rejects. -/
def refusalOf : Reject → Refusal
  | .unassignedSlot slot => .unassignedSlot slot

/-- Place a request for the very next step. -/
def State.place (s : State) (r : Request) : State := { s with script := r :: s.script }

/-- The three operation names of a test script (R44). -/
inductive ScriptOp where
  | reset
  | tick
  | hold
  deriving DecidableEq, Repr

/-- The control word a script emits for an operation: digits 2, 1 and 0 (R44). -/
def ScriptOp.word : ScriptOp → Ctl
  | .reset => 0b10
  | .tick => 0b01
  | .hold => 0b00

/-- A script line is an operation and its repeat count, a pseudo-operation of R44. R44's grammar has counts of 1 and
more; that the type admits 0 is the model's DESIGN CHOICE (log 19). -/
abbrev ScriptLine := ScriptOp × Nat

/-- The control words a script stands for: each line's operation written `count` times (R44). A count of 0, to which
R44 gives no meaning, stands for no control word (DESIGN CHOICE, log 19). -/
def expandScript : List ScriptLine → List Ctl
  | [] => []
  | (op, count) :: rest => List.replicate count op.word ++ expandScript rest

/-- Place control words for the next steps. -/
def State.placeWords (s : State) (ws : List Ctl) : State := { s with script := ws.map Request.ctl ++ s.script }

end Sys2Proof.Machine
end

