-- ==== Sys2Proof/Machine/Step.lean ====
section
/-! DEFINITION. One step of the machine: one request, one whole operation (R17, R38, R92). -/

namespace Sys2Proof.Machine

/-- One step. A core whose configuration fails `CfgValid` does not exist and has no step (R72, R86; log 8). -/
def step (s : State) : Host.Outcome State Fault Refusal :=
  whenConfigured s <|
    match decode s.takeRequest.1 with
    | .ok i => exec i s.takeRequest.2
    | .error e => .refused (refusalOf e)

/-- `s` with the operation of a table word placed for the very next step (log 3, log 7); `s` itself where the word
writes no request. -/
def State.withFetchWord (s : State) (nbits w : Nat) : State :=
  match requestOfTableWord nbits w with
  | some r => s.place r
  | none => s

end Sys2Proof.Machine
end

