-- ==== Sys2Proof/Machine/Ports.lean ====
section
/-! DEFINITION. The output ports (R25, R29): pure functions of the registers; reading them changes nothing (R32). -/

namespace Sys2Proof.Machine

/-- The seven output ports of R29. -/
structure Ports where
  lit : Bool
  spoolFwd : Level
  spoolRev : Level
  guideFwd : Level
  guideRev : Level
  enablePhase : Bool
  pulsePhase : Bool
  deriving DecidableEq, Repr

/-- What the host reads between operations (R25, R94). -/
def State.ports (s : State) : Ports where
  lit := s.lit
  spoolFwd := s.spoolFwd
  spoolRev := s.spoolRev
  guideFwd := s.guideFwd
  guideRev := s.guideRev
  enablePhase := s.enabledNext
  pulsePhase := s.pulseNext

end Sys2Proof.Machine
end

