-- ==== Sys2Proof/Safety.lean ====
section
/-! DEFINITION. The terms in which claims about runs are made: legal pairs, the invariant of R26, and the state after
a given number of ticks (R26 I7, I8; R53, R55, R62). -/

namespace Sys2Proof.Machine

/-- A pair is legal when at least one of its levels is zero (R49, conflict C8). -/
abbrev Legal (a : Axis) : Prop := a.fwd = 0 ∨ a.rev = 0

/-- The three counters are below their periods: I1 to I3 of R26. -/
abbrev CountersInRange (s : State) : Prop :=
  s.indCnt < s.cfg.halfPeriod ∧ s.gateCnt < s.cfg.enablePeriod ∧ s.pulseCnt < s.cfg.guidePeriod

/-- I1 to I6 of R26, on a core whose configuration is valid. -/
structure Inv (s : State) : Prop where
  valid : CfgValid s.cfg
  counters : CountersInRange s
  reverseZero : s.spoolRev = 0 ∧ s.guideRev = 0
  belowSpeed : s.spoolFwd.toNat ≤ s.cfg.spoolSpeed.toNat ∧ s.guideFwd.toNat ≤ s.cfg.guideSpeed.toNat
  singleDirection : Legal s.spoolAxis ∧ Legal s.guideAxis

/-- Only control words are placed: the machine is the core of the spec, with no bench request (log 5). -/
abbrev CoreOnly (s : State) : Prop := ∀ r ∈ s.script, r.format = Format.ctl

/-- `e(n)` of R62: the gate's phase at tick index n. -/
def gatePhaseAt (c : Cfg) (n : Nat) : Bool := decide (n % c.enablePeriod < c.enableOn)

/-- `p(n)` of R62: the pulse's phase at tick index n. -/
def pulsePhaseAt (c : Cfg) (n : Nat) : Bool := decide (n % c.guidePeriod < c.guideOn)

/-- `run(n)` of R62 after k ticks: how many consecutive tick indices ending at k − 1 have the phase true. -/
def runLength (phase : Nat → Bool) : Nat → Nat
  | 0 => 0
  | k + 1 => if phase k then runLength phase k + 1 else 0

/-- The registers after exactly k TICKs since the last RESET, under `cfg` (R26 I7 and I8, R55, R62). -/
structure AfterTicks (k : Nat) (s : State) : Prop where
  ind : s.indCnt = k % s.cfg.halfPeriod
  lit : s.lit = decide (k / s.cfg.halfPeriod % 2 = 1)
  gate : s.gateCnt = k % s.cfg.enablePeriod
  pulse : s.pulseCnt = k % s.cfg.guidePeriod
  spoolFwd : s.spoolFwd.toNat =
    min s.cfg.spoolSpeed.toNat (runLength (gatePhaseAt s.cfg) k * s.cfg.spoolAcc.toNat)
  spoolRev : s.spoolRev = 0
  guideFwd : s.guideFwd.toNat =
    min s.cfg.guideSpeed.toNat
      (runLength (fun n => gatePhaseAt s.cfg n && pulsePhaseAt s.cfg n) k * s.cfg.guideAcc.toNat)
  guideRev : s.guideRev = 0

/-- The number of TICKs since the last RESET, after one more control word (R7, R66, R75). -/
def countAfterWord (k : Nat) (w : Ctl) : Nat :=
  match decodeCtl w with
  | .reset => 0
  | .tick => k + 1
  | _ => k

/-- The two states agree on the configuration and the eight registers of R10. -/
abbrev SameCore (s t : State) : Prop :=
  s.cfg = t.cfg ∧ s.indCnt = t.indCnt ∧ s.lit = t.lit ∧ s.gateCnt = t.gateCnt ∧ s.pulseCnt = t.pulseCnt ∧
  s.spoolFwd = t.spoolFwd ∧ s.spoolRev = t.spoolRev ∧ s.guideFwd = t.guideFwd ∧ s.guideRev = t.guideRev

end Sys2Proof.Machine
end

