-- ==== Sys2Proof/Certificates/Slice0/Obligations.lean ====
section
/-! DEFINITION. The statements made of the machine. Each cites the rule of the spec it formalises; where a clause rests
on a choice of the model, the docstring names the log entry. -/

open Sys2Proof Sys2Proof.Machine

/-! ### Encoding -/

/-- R42: the four control words, the one CTL row that selects each of them, and the slot labels compared on all three
bits. (The bit patterns are the spec's decisions D3 and D4.) -/
def Obligations.EachControlWordSelectsOneRow : Prop :=
  decode (.ctl 0b00) = .ok .hold ∧ decode (.ctl 0b01) = .ok .tick ∧
  decode (.ctl 0b10) = .ok .reset ∧ decode (.ctl 0b11) = .ok .reset ∧
  (∀ w : Ctl, (ctlRows.filter (fun r => r.selects w)).map CtlRow.op = [decodeCtl w]) ∧
  (∀ (w : SlotBits) (slot : Slot), decodeSlot w = some slot ↔ w = slot.label) ∧
  [Slot.ind, Slot.gate, Slot.spool, Slot.pulse, Slot.guide].map (fun p => p.label.toNat) = [0, 1, 2, 3, 4]

/-- R39, R43: labels 5, 6 and 7 name no slot. That a bench request for one is refused is the model's (log 5). -/
def Obligations.UnassignedSlotLabelsAreRefused : Prop :=
  ∀ (s : State) (w : SlotBits) (e p : Bool) (rest : List Request), CfgValid s.cfg → 5 ≤ w.toNat →
    s.script = .seq w e p :: rest → step s = .refused (.unassignedSlot w)

/-- Decoding the encoding of an operation gives the operation back, with every operand. The requests of formats SEQ
and FN are the model's (log 5, log 6). -/
def Obligations.DecodeGivesBackEveryEncodedOperation : Prop :=
  ∀ i : Instr, decode (encode i) = .ok i

/-- The complete list of the requests that select an operation: its encoding; the second spelling `11` of RESET (R42);
and, for a slot that reads fewer than two booleans, any value of those it does not read (R41, log 6). -/
def Obligations.EverySpellingOfAnOperation : Prop :=
  ∀ (r : Request) (i : Instr), decode r = .ok i ↔
    r = encode i ∨
    (i = .reset ∧ r = .ctl 0b11) ∨
    (∃ e p, i = .indTick ∧ r = .seq 0 e p) ∨
    (∃ e p, i = .gateTick ∧ r = .seq 1 e p) ∨
    (∃ e p, i = .updSpool e ∧ r = .seq 2 e p) ∨
    (∃ e p, i = .pulseTick ∧ r = .seq 3 e p)

/-- R44: a script's digits and what they decode to; a repeat count is that many copies; 3 also decodes to RESET. (R44
has counts of 1 and more; that a count of 0 expands to nothing is the model's choice, log 19.) -/
def Obligations.ScriptDigitsAndRepeatCounts : Prop :=
  (∀ op n, expandScript [(op, n)] = List.replicate n op.word) ∧
  (∀ a b, expandScript (a ++ b) = expandScript a ++ expandScript b) ∧
  decodeCtl (BitVec.ofNat 2 0) = .hold ∧ decodeCtl (BitVec.ofNat 2 1) = .tick ∧
  decodeCtl (BitVec.ofNat 2 2) = .reset ∧ decodeCtl (BitVec.ofNat 2 3) = .reset ∧
  ScriptOp.hold.word.toNat = 0 ∧ ScriptOp.tick.word.toNat = 1 ∧ ScriptOp.reset.word.toNat = 2

/-! ### The step -/

/-- A step runs the oldest placed request's operation, after taking the request off the list (R38; log 3). -/
def Obligations.StepRunsThePlacedRequest : Prop :=
  ∀ (s : State) (r : Request) (rest : List Request) (i : Instr), CfgValid s.cfg → s.script = r :: rest →
    decode r = .ok i → step s = exec i { s with script := rest }

/-- With nothing placed, a step runs the control word the host then chooses, whatever it is (R68; free value of
log 3). -/
def Obligations.StepRunsTheHostsOwnWord : Prop :=
  ∀ s : State, CfgValid s.cfg → s.script = [] →
    step s = exec (decodeCtl (Config.hostCtl s.hostIx)) { s with hostIx := s.hostIx + 1 }

/-- R72, U1: under an invalid configuration there is no step, and no operation that reads `cfg` has an effect
(log 8). -/
def Obligations.InvalidConfigurationIsRefused : Prop :=
  ∀ s : State, ¬ CfgValid s.cfg →
    step s = .refused .invalidConfig ∧
    ∀ i : Instr, (i = .tick ∨ i.format = .seq) → exec i s = .refused .invalidConfig

/-- R71: no operation of the opcode table can fail. On a valid configuration with the counters below their periods,
every operation on operands of its domain answers a next state, and so does every step that takes a request for one.
Conversely an operation that answers none is refused for one of three reasons, each of which holds of the state and the
operands: the premises of the rules (log 8, log 9, log 10) are the only grounds there are, and none is an exception
(log 13). -/
def Obligations.NoOperationCanFail : Prop :=
  (∀ (i : Instr) (s : State), CfgValid s.cfg → CountersInRange s → i.wellFormed s.cfg.cw = true →
    ∃ t, exec i s = .next t) ∧
  (∀ (i : Instr) (s : State), CfgValid s.cfg → CountersInRange s → decode s.takeRequest.1 = .ok i →
    i.wellFormed s.cfg.cw = true → ∃ t, step s = .next t) ∧
  (∀ (i : Instr) (s : State), (∀ t, exec i s ≠ .next t) →
    (exec i s = .refused .invalidConfig ∧ ¬ CfgValid s.cfg) ∨
    (∃ k, exec i s = .refused (.counterOutOfRange k) ∧ periodOf s.cfg k ≤ s.counter k) ∨
    (exec i s = .refused .dutyOperandsOutOfRange ∧ i.wellFormed s.cfg.cw = false))

/-- R67: every state of a running core has a successor, whatever word is placed or chosen. -/
def Obligations.EveryStateOfTheCoreHasASuccessor : Prop :=
  ∀ s : State, Inv s → CoreOnly s → ∃ t, step s = .next t

/-! ### What each operation does -/

/-- R65: HOLD changes no register and no port. (That the model's field `ret` then holds nothing is log 4.) -/
def Obligations.HoldChangesNothing : Prop :=
  ∀ s : State, exec .hold s = .next { s with ret := .nothing } ∧
    State.ports { s with ret := .nothing } = s.ports

/-- R66: RESET sets every register to its reset value from any state, and leaves `cfg` alone. -/
def Obligations.ResetClearsEveryRegister : Prop :=
  ∀ s : State, exec .reset s = .next { s with
    indCnt := 0, lit := false, gateCnt := 0, pulseCnt := 0,
    spoolFwd := 0, spoolRev := 0, guideFwd := 0, guideRev := 0, ret := .nothing }

/-- R75 (the spec's decision D13): with both bits of the control word set, RESET is performed and the tick dropped. -/
def Obligations.ResetWinsOverTick : Prop :=
  ∀ (s : State) (rest : List Request), CfgValid s.cfg → s.script = .ctl 0b11 :: rest →
    step s = .next { s with
      indCnt := 0, lit := false, gateCnt := 0, pulseCnt := 0,
      spoolFwd := 0, spoolRev := 0, guideFwd := 0, guideRev := 0, ret := .nothing, script := rest } ∧
    step { s with script := .ctl 0b10 :: rest } = step s

/-- R63 and R64: all eight registers and the observation after TICK, each from the state before it. -/
def Obligations.TickUpdatesEveryRegister : Prop :=
  ∀ s : State, CfgValid s.cfg → CountersInRange s →
    let toggled := decide (s.indCnt + 1 = s.cfg.halfPeriod)
    let enabled := decide (s.gateCnt < s.cfg.enableOn)
    let pulseActive := decide (s.pulseCnt < s.cfg.guideOn)
    let spool := updateAxis ⟨s.spoolFwd, s.spoolRev⟩ (if enabled then s.cfg.spoolSpeed else 0) 0 s.cfg.spoolAcc
    let guide := updateAxis ⟨s.guideFwd, s.guideRev⟩
      (if enabled && pulseActive then s.cfg.guideSpeed else 0) 0 s.cfg.guideAcc
    exec .tick s = .next { s with
      indCnt := if s.indCnt + 1 = s.cfg.halfPeriod then 0 else s.indCnt + 1
      lit := if toggled then !s.lit else s.lit
      gateCnt := if s.gateCnt + 1 = s.cfg.enableOn + s.cfg.enableOff then 0 else s.gateCnt + 1
      pulseCnt := if s.pulseCnt + 1 = s.cfg.guideOn + s.cfg.guideOff then 0 else s.pulseCnt + 1
      spoolFwd := spool.fwd, spoolRev := spool.rev
      guideFwd := guide.fwd, guideRev := guide.rev
      ret := .observation toggled enabled pulseActive }

/-- R63: TICK is its five slots run one after the other, each on the state the one before it left, with `enabled`
handed from slot 1 to slots 2 and 4 and `pulse_active` from slot 3 to slot 4. -/
def Obligations.TickIsItsFiveSlotsInOrder : Prop :=
  ∀ s : State, CfgValid s.cfg → CountersInRange s →
    ∃ (a b c d e : State) (toggled enabled pulseActive : Bool),
      exec .indTick s = .next a ∧ a.ret = .toggled toggled ∧
      exec .gateTick a = .next b ∧ b.ret = .enabled enabled ∧
      exec (.updSpool enabled) b = .next c ∧
      exec .pulseTick c = .next d ∧ d.ret = .pulseActive pulseActive ∧
      exec (.updGuide enabled pulseActive) d = .next e ∧
      exec .tick s = .next { e with ret := .observation toggled enabled pulseActive }

/-- R54: IND.TICK advances first and flips `lit` on the boundary. (Which call flips is the spec's decision D10.) -/
def Obligations.IndTickAdvancesThenFlips : Prop :=
  ∀ s : State, CfgValid s.cfg → s.indCnt < s.cfg.halfPeriod →
    exec .indTick s = .next (
      if s.indCnt + 1 = s.cfg.halfPeriod then { s with indCnt := 0, lit := !s.lit, ret := .toggled true }
      else { s with indCnt := s.indCnt + 1, ret := .toggled false })

/-- R57: GATE.TICK is DCC.TICK on `gate_cnt`: it returns the phase of the old count and advances it. -/
def Obligations.GateTickReportsEnabled : Prop :=
  ∀ s : State, CfgValid s.cfg → s.gateCnt < s.cfg.enableOn + s.cfg.enableOff →
    exec .gateTick s = .next { s with
      gateCnt := if s.gateCnt + 1 = s.cfg.enableOn + s.cfg.enableOff then 0 else s.gateCnt + 1
      ret := .enabled (decide (s.gateCnt < s.cfg.enableOn)) }

/-- R56: PULSE.TICK is DCC.TICK on `pulse_cnt`, whatever the gate says. -/
def Obligations.PulseTickReportsPulseActive : Prop :=
  ∀ s : State, CfgValid s.cfg → s.pulseCnt < s.cfg.guideOn + s.cfg.guideOff →
    exec .pulseTick s = .next { s with
      pulseCnt := if s.pulseCnt + 1 = s.cfg.guideOn + s.cfg.guideOff then 0 else s.pulseCnt + 1
      ret := .pulseActive (decide (s.pulseCnt < s.cfg.guideOn)) }

/-- R52: DCC.TICK on its operand domain: the phase of the old count, then the advanced count. (The order of compare and
advance is the spec's decision D11.) -/
def Obligations.DccTickReportsPhaseAndAdvances : Prop :=
  ∀ (s : State) (c on off : Nat), c < on + off → on + off ≤ 2 ^ s.cfg.cw - 1 →
    exec (.dccTick c on off) s = .next { s with
      ret := .duty (decide (c < on)) (if c + 1 = on + off then 0 else c + 1) }

/-- U2, U3: DCC.TICK outside its operand domain has no meaning; the model refuses it (log 10). -/
def Obligations.DccTickOutsideItsDomainIsRefused : Prop :=
  ∀ (s : State) (c on off : Nat), ¬ (c < on + off ∧ on + off ≤ 2 ^ s.cfg.cw - 1) →
    exec (.dccTick c on off) s = .refused .dutyOperandsOutOfRange

/-- U3, D23: an operation that advances a counter at or above its period has no meaning; the model refuses it by the
counter's name, TICK in the order of its slots (log 9). -/
def Obligations.CounterAboveItsPeriodIsRefused : Prop :=
  ∀ s : State, CfgValid s.cfg →
    (s.cfg.halfPeriod ≤ s.indCnt →
      exec .indTick s = .refused (.counterOutOfRange .ind) ∧ exec .tick s = .refused (.counterOutOfRange .ind)) ∧
    (s.cfg.enablePeriod ≤ s.gateCnt →
      exec .gateTick s = .refused (.counterOutOfRange .gate) ∧
      (s.indCnt < s.cfg.halfPeriod → exec .tick s = .refused (.counterOutOfRange .gate))) ∧
    (s.cfg.guidePeriod ≤ s.pulseCnt →
      exec .pulseTick s = .refused (.counterOutOfRange .pulse) ∧
      (s.indCnt < s.cfg.halfPeriod → s.gateCnt < s.cfg.enablePeriod →
        exec .tick s = .refused (.counterOutOfRange .pulse)))

/-- R60: UPD.SPOOL is UPDATEAXIS on the spool's pair. (The reverse target 0 is the spec's decision D9.) -/
def Obligations.UpdSpoolRampsTheSpoolPair : Prop :=
  ∀ (s : State) (enabled : Bool), CfgValid s.cfg →
    let pair := updateAxis ⟨s.spoolFwd, s.spoolRev⟩ (if enabled then s.cfg.spoolSpeed else 0) 0 s.cfg.spoolAcc
    exec (.updSpool enabled) s = .next { s with spoolFwd := pair.fwd, spoolRev := pair.rev, ret := .nothing }

/-- R61: UPD.GUIDE is UPDATEAXIS on the guide's pair, driven only when enabled and pulse-active. (The reverse target 0
is the spec's decision D9.) -/
def Obligations.UpdGuideRampsTheGuidePair : Prop :=
  ∀ (s : State) (enabled pulseActive : Bool), CfgValid s.cfg →
    let pair := updateAxis ⟨s.guideFwd, s.guideRev⟩
      (if enabled && pulseActive then s.cfg.guideSpeed else 0) 0 s.cfg.guideAcc
    exec (.updGuide enabled pulseActive) s = .next { s with
      guideFwd := pair.fwd, guideRev := pair.rev, ret := .nothing }

/-- R45: NEXTLEVEL returns `current` plus the exact signed difference to the target, clamped above by `maxStep` and not
below; it is total and touches no register. -/
def Obligations.NextLevelClampsTheRiseOnly : Prop :=
  ∀ (s : State) (current target maxStep : Level), ∃ next : Level,
    exec (.nextLevel current target maxStep) s = .next { s with ret := .level next } ∧
    (next.toNat : Int) = (current.toNat : Int) +
      (if (target.toNat : Int) - current.toNat > maxStep.toNat then (maxStep.toNat : Int)
       else (target.toNat : Int) - current.toNat)

/-- R48: UPDATEAXIS ramps each direction whose opposite direction is zero before the call; it is total and touches no
register. -/
def Obligations.UpdateAxisTestsThePairBeforeTheCall : Prop :=
  ∀ (s : State) (a : Axis) (fwdTarget revTarget maxAcc : Level),
    exec (.updateAxis a fwdTarget revTarget maxAcc) s = .next { s with
      ret := .axis
        ⟨if a.rev = 0 then nextLevel a.fwd fwdTarget maxAcc else a.fwd,
         if a.fwd = 0 then nextLevel a.rev revTarget maxAcc else a.rev⟩ }

/-! ### The ramp and the axis -/

/-- R46, derived there: the closed form of NEXTLEVEL, and after how many calls a held target is reached: exactly
`ceil((target − current) / maxStep)` upward, one call downward, never upward with a step bound of 0. -/
def Obligations.RampClosedFormAndCallCount : Prop :=
  ∀ current target maxStep : Level,
    (nextLevel current target maxStep).toNat =
      (if target.toNat ≤ current.toNat then target.toNat else min target.toNat (current.toNat + maxStep.toNat)) ∧
    (1 ≤ maxStep.toNat → current.toNat ≤ target.toNat → ∀ k : Nat,
      (fun v => nextLevel v target maxStep)^[k] current = target ↔
        ceilDiv (target.toNat - current.toNat) maxStep.toNat ≤ k) ∧
    (target.toNat < current.toNat → ∀ k : Nat, 1 ≤ k → (fun v => nextLevel v target maxStep)^[k] current = target) ∧
    (maxStep.toNat = 0 → current.toNat < target.toNat → ∀ k : Nat,
      (fun v => nextLevel v target maxStep)^[k] current = current)

/-- R49, derived there: UPDATEAXIS keeps a pair legal, provided an idle pair is not given two nonzero targets with a
nonzero acceleration. -/
def Obligations.LegalPairStaysLegalUnderTheProviso : Prop :=
  ∀ (s : State) (a : Axis) (fwdTarget revTarget maxAcc : Level), Legal a →
    (a = ⟨0, 0⟩ → 1 ≤ maxAcc.toNat → fwdTarget = 0 ∨ revTarget = 0) →
    ∃ b : Axis, exec (.updateAxis a fwdTarget revTarget maxAcc) s = .next { s with ret := .axis b } ∧ Legal b

/-- R49 and conflict C2: without the proviso the invariant is false (vector T-AX-7); this statement is to be
refuted. -/
def Obligations.LegalPairStaysLegalWithoutTheProviso : Prop :=
  ∀ (a : Axis) (fwdTarget revTarget maxAcc : Level), Legal a → Legal (updateAxis a fwdTarget revTarget maxAcc)

/-- R48 case iv: with both levels nonzero neither branch fires, for all targets, however often it is called. -/
def Obligations.DeadlockedAxisIsHeldForEver : Prop :=
  ∀ (a : Axis) (calls : List (Level × Level × Level)), a.fwd ≠ 0 → a.rev ≠ 0 →
    calls.foldl (fun p c => updateAxis p c.1 c.2.1 c.2.2) a = a

/-- R48 case v and R97: a reversal passes through the idle pair, and the reverse ramp starts one call later. -/
def Obligations.ReversalCostsOneIdleCall : Prop :=
  ∀ (f rt maxAcc : Level), f ≠ 0 →
    updateAxis ⟨f, 0⟩ 0 rt maxAcc = ⟨0, 0⟩ ∧
    updateAxis (updateAxis ⟨f, 0⟩ 0 rt maxAcc) 0 rt maxAcc = ⟨0, nextLevel 0 rt maxAcc⟩

/-- R73: a deadlocked axis stops nothing: TICK completes, the counters advance, the other motor is updated by
UPDATEAXIS, and the deadlocked pair alone stands still. -/
def Obligations.DeadlockedAxisStopsNothingElse : Prop :=
  ∀ s : State, CfgValid s.cfg → CountersInRange s →
    ∃ t, exec .tick s = .next t ∧
      t.indCnt = (s.indCnt + 1) % s.cfg.halfPeriod ∧ t.gateCnt = (s.gateCnt + 1) % s.cfg.enablePeriod ∧
      t.pulseCnt = (s.pulseCnt + 1) % s.cfg.guidePeriod ∧
      (s.spoolFwd ≠ 0 → s.spoolRev ≠ 0 → t.spoolFwd = s.spoolFwd ∧ t.spoolRev = s.spoolRev ∧
        ⟨t.guideFwd, t.guideRev⟩ = updateAxis ⟨s.guideFwd, s.guideRev⟩
          (if s.gateCnt < s.cfg.enableOn ∧ s.pulseCnt < s.cfg.guideOn then s.cfg.guideSpeed else 0) 0
          s.cfg.guideAcc) ∧
      (s.guideFwd ≠ 0 → s.guideRev ≠ 0 → t.guideFwd = s.guideFwd ∧ t.guideRev = s.guideRev ∧
        ⟨t.spoolFwd, t.spoolRev⟩ = updateAxis ⟨s.spoolFwd, s.spoolRev⟩
          (if s.gateCnt < s.cfg.enableOn then s.cfg.spoolSpeed else 0) 0 s.cfg.spoolAcc)

/-- R53, derived there: from 0, the call with tick index n reads n mod P, reports whether that is below ON, and leaves
(n + 1) mod P. -/
def Obligations.DutyCycleRepeatsForEver : Prop :=
  ∀ on off : Nat, 1 ≤ on + off → ∀ n : Nat,
    (fun c => (dutyTick c on off).2)^[n] 0 = n % (on + off) ∧
    dutyTick ((fun c => (dutyTick c on off).2)^[n] 0) on off =
      (decide (n % (on + off) < on), (n + 1) % (on + off))

/-! ### The motors -/

/-- R60, its corner cases: with the reverse level at zero, an enabled tick raises the spool by the acceleration up to
its speed, and a disabled one drops it to 0 at once. -/
def Obligations.SpoolRisesBoundedAndDropsAtOnce : Prop :=
  ∀ (s : State) (enabled : Bool), CfgValid s.cfg → s.spoolRev = 0 → s.spoolFwd.toNat ≤ s.cfg.spoolSpeed.toNat →
    ∃ t, exec (.updSpool enabled) s = .next t ∧ t.spoolRev = 0 ∧
      t.spoolFwd.toNat =
        if enabled then min s.cfg.spoolSpeed.toNat (s.spoolFwd.toNat + s.cfg.spoolAcc.toNat) else 0

/-- R61, its corner cases: the guide rises when both booleans are true and is 0 after any other combination. -/
def Obligations.GuideRisesOnlyWhenEnabledAndPulsing : Prop :=
  ∀ (s : State) (enabled pulseActive : Bool), CfgValid s.cfg → s.guideRev = 0 →
    s.guideFwd.toNat ≤ s.cfg.guideSpeed.toNat →
    ∃ t, exec (.updGuide enabled pulseActive) s = .next t ∧ t.guideRev = 0 ∧
      t.guideFwd.toNat =
        if enabled && pulseActive then min s.cfg.guideSpeed.toNat (s.guideFwd.toNat + s.cfg.guideAcc.toNat) else 0

/-- R90: the accelerations bound the rise of every level in one step of the machine, from any state; no bound holds for
the fall. -/
def Obligations.NoStepRaisesALevelByMoreThanItsAcceleration : Prop :=
  ∀ s t : State, step s = .next t →
    t.spoolFwd.toNat ≤ s.spoolFwd.toNat + s.cfg.spoolAcc.toNat ∧
    t.guideFwd.toNat ≤ s.guideFwd.toNat + s.cfg.guideAcc.toNat ∧
    t.spoolRev.toNat ≤ s.spoolRev.toNat ∧ t.guideRev.toNat ≤ s.guideRev.toNat

/-! ### Ports and observation -/

/-- R25: the seven ports as functions of the registers. -/
def Obligations.PortsAreFunctionsOfTheRegisters : Prop :=
  ∀ s : State, s.ports =
    ⟨s.lit, s.spoolFwd, s.spoolRev, s.guideFwd, s.guideRev,
     decide (s.gateCnt < s.cfg.enableOn), decide (s.pulseCnt < s.cfg.guideOn)⟩

/-- R64: TICK's observation is the change of port `lit` and the two phase ports as they stood before it; HOLD and RESET
have none. (That the observation is found in `ret` is log 4.) -/
def Obligations.PhasePortsForetellTheObservation : Prop :=
  ∀ s : State, CfgValid s.cfg → CountersInRange s →
    (∃ t, exec .tick s = .next t ∧
      t.ret = .observation (t.ports.lit != s.ports.lit) s.ports.enablePhase s.ports.pulsePhase) ∧
    (∃ t, exec .hold s = .next t ∧ t.ret = .nothing) ∧ (∃ t, exec .reset s = .next t ∧ t.ret = .nothing)

/-! ### Frames and independence -/

/-- R40, R45, R48: a function unit owns no register: only the returned value changes. -/
def Obligations.FunctionUnitsTouchNoRegister : Prop :=
  ∀ (i : Instr) (s t : State), i.format = .fn → exec i s = .next t → t = { s with ret := t.ret }

/-- The writers' column of R10's table: a register changes only under the operations that name it, and no operation
touches the model's `script` and `hostIx` (log 3). -/
def Obligations.EachRegisterHasOnlyItsWriters : Prop :=
  ∀ (i : Instr) (s t : State), exec i s = .next t →
    (i ≠ .reset → i ≠ .tick →
      (i ≠ .indTick → t.indCnt = s.indCnt ∧ t.lit = s.lit) ∧
      (i ≠ .gateTick → t.gateCnt = s.gateCnt) ∧
      (i ≠ .pulseTick → t.pulseCnt = s.pulseCnt) ∧
      ((∀ e, i ≠ .updSpool e) → t.spoolFwd = s.spoolFwd ∧ t.spoolRev = s.spoolRev) ∧
      ((∀ e p, i ≠ .updGuide e p) → t.guideFwd = s.guideFwd ∧ t.guideRev = s.guideRev)) ∧
    t.script = s.script ∧ t.hostIx = s.hostIx

/-- R21: no operation and no step changes the configuration. -/
def Obligations.TheConfigurationNeverChanges : Prop :=
  (∀ (i : Instr) (s t : State), exec i s = .next t → t.cfg = s.cfg) ∧ ∀ s t : State, step s = .next t → t.cfg = s.cfg

/-- R68, derived there: the configuration, the registers and the operation determine the registers and the returned
value; the model's own fields never flow into them. -/
def Obligations.RegistersAndOperationDetermineTheResult : Prop :=
  ∀ (i : Instr) (s t s' : State), SameCore s t → exec i s = .next s' →
    ∃ t', exec i t = .next t' ∧ SameCore s' t' ∧ s'.ret = t'.ret

/-- R58: the three counters are independent in a TICK, and neither motor sees the indicator, nor the spool the pulse
or the guide. -/
def Obligations.CountersAreIndependentInATick : Prop :=
  ∀ s t s' t' : State, s.cfg = t.cfg → exec .tick s = .next s' → exec .tick t = .next t' →
    (s.indCnt = t.indCnt → s'.indCnt = t'.indCnt ∧ (s.lit = t.lit → s'.lit = t'.lit)) ∧
    (s.gateCnt = t.gateCnt → s'.gateCnt = t'.gateCnt) ∧
    (s.pulseCnt = t.pulseCnt → s'.pulseCnt = t'.pulseCnt) ∧
    (s.gateCnt = t.gateCnt → s.spoolFwd = t.spoolFwd → s.spoolRev = t.spoolRev →
      s'.spoolFwd = t'.spoolFwd ∧ s'.spoolRev = t'.spoolRev) ∧
    (s.gateCnt = t.gateCnt → s.pulseCnt = t.pulseCnt → s.guideFwd = t.guideFwd → s.guideRev = t.guideRev →
      s'.guideFwd = t'.guideFwd ∧ s'.guideRev = t'.guideRev)

/-! ### Reset and configuration -/

/-- R27: the reset values of the eight registers, and the ports after reset, for every configuration. -/
def Obligations.ResetStateIsIdleAndUnlit : Prop :=
  ∀ c : Cfg, SameCore (State.resetWith c) ⟨c, 0, false, 0, 0, 0, 0, 0, 0, .nothing, [], 0⟩ ∧
    (State.resetWith c).ports = ⟨false, 0, 0, 0, 0, decide (1 ≤ c.enableOn), decide (1 ≤ c.guideOn)⟩

/-- R85: after a RESET from any state, the next TICK is tick index 0 of all three cycles: enabled and pulse-active
where the on phases have a length, and the spool already rises. -/
def Obligations.FirstTickAfterResetIsEnabled : Prop :=
  ∀ s : State, CfgValid s.cfg → ∃ r t, exec .reset s = .next r ∧ exec .tick r = .next t ∧
    t.ret = .observation (decide (s.cfg.halfPeriod = 1)) (decide (1 ≤ s.cfg.enableOn)) (decide (1 ≤ s.cfg.guideOn)) ∧
    (1 ≤ s.cfg.enableOn → t.spoolFwd.toNat = min s.cfg.spoolSpeed.toNat s.cfg.spoolAcc.toNat)

/-- R24: the values of profile P8, and that they satisfy CfgValid. -/
def Obligations.ProfileP8IsValid : Prop :=
  Cfg.profileP8 = ⟨20, 1200, 6000, 10, 30, 0x40, 0x40, 0x80, 0x80, 16, 100⟩ ∧ CfgValid Cfg.profileP8

/-- R23, derived there: under CfgValid every value a counter takes, the transient `c + 1` included, fits CW bits. -/
def Obligations.CountersFitTheirWidth : Prop :=
  ∀ s : State, Inv s →
    s.indCnt + 1 ≤ 2 ^ s.cfg.cw - 1 ∧ s.gateCnt + 1 ≤ 2 ^ s.cfg.cw - 1 ∧ s.pulseCnt + 1 ≤ 2 ^ s.cfg.cw - 1

/-! ### Invariants and whole runs -/

/-- R26, derived there: the reset state of a valid configuration meets I1 to I6. -/
def Obligations.ResetMeetsTheReachabilityInvariant : Prop :=
  ∀ c : Cfg, CfgValid c → Inv (State.resetWith c)

/-- R26, derived there: every step keeps I1 to I6: the control words, and the model's bench requests too (log 5). -/
def Obligations.EveryStepKeepsTheReachabilityInvariant : Prop :=
  ∀ s t : State, Inv s → step s = .next t → Inv t

/-- R49, R89: no step of the machine makes a legal pair illegal, from any state at all. -/
def Obligations.NoStepBreaksTheSingleDirectionInvariant : Prop :=
  ∀ s t : State, Legal s.spoolAxis → Legal s.guideAxis → step s = .next t →
    Legal t.spoolAxis ∧ Legal t.guideAxis

/-- R39, R43: a state in which only control words are placed runs HOLD, TICK or RESET, and stays such a state; the
host's own choice is a control word too. -/
def Obligations.ControlWordsAloneRunTopLevelOperations : Prop :=
  ∀ s t : State, CoreOnly s → step s = .next t →
    CoreOnly t ∧ ∃ i, (i = .hold ∨ i = .tick ∨ i = .reset) ∧ exec i s.takeRequest.2 = .next t

/-- R26 I7 and I8, R55 and R62, derived there: if the registers are those after k TICKs since the last RESET, then one
more control word leaves them those after k + 1, k or 0. -/
def Obligations.EachControlWordKeepsTheTickCountForm : Prop :=
  ∀ (s s' : State) (k : Nat) (w : Ctl), CfgValid s.cfg → AfterTicks k s → s.takeRequest = (.ctl w, s') →
    ∃ t, step s = .next t ∧ AfterTicks (countAfterWord k w) t

/-- R26, R55, R62 and R67: from reset, under any valid configuration, every script of control words runs to its end,
and the registers are then the closed form of the number of TICKs since the last RESET. -/
def Obligations.EveryScriptEndsInTheTickCountForm : Prop :=
  ∀ (c : Cfg) (ws : List Ctl), CfgValid c →
    ∃ t, Host.Core.run Sys2Proof.core ws.length ((State.resetWith c).placeWords ws) = .next t ∧
      AfterTicks (ws.foldl countAfterWord 0) t ∧ t.cfg = c ∧ t.script = []

/-- R26 and R68: from reset, with nothing placed, every run of any length completes and meets I1 to I6, whatever words
the host chooses (the free value of log 3). -/
def Obligations.EveryRunOfTheHostMeetsTheInvariant : Prop :=
  ∀ (c : Cfg) (k : Nat), CfgValid c →
    ∃ t, Host.Core.run Sys2Proof.core k (State.resetWith c) = .next t ∧ Inv t

/-- R65: any number of HOLDs before a TICK leaves the result of the TICK unchanged. -/
def Obligations.HoldsBeforeATickAreInvisible : Prop :=
  ∀ (s : State) (n : Nat), CfgValid s.cfg →
    Host.Core.run Sys2Proof.core (n + 1) (s.placeWords (List.replicate n 0b00 ++ [0b01])) =
      Host.Core.run Sys2Proof.core 1 (s.placeWords [0b01])

/-- R44, R66: `RESET n` ends in the same state as one `RESET`. -/
def Obligations.RepeatedResetsAreOneReset : Prop :=
  ∀ (s : State) (n : Nat), CfgValid s.cfg → 1 ≤ n →
    Host.Core.run Sys2Proof.core n (s.placeWords (expandScript [(.reset, n)])) =
      Host.Core.run Sys2Proof.core 1 (s.placeWords [0b10])
end

