-- ==== Sys2Proof/Laws/State.lean ====
section
/-! SUPPORT. What each named update of the state leaves in each field, and the fields of the reset state: all by
rfl, so that no later proof unfolds a record update. -/

namespace Sys2Proof.Machine

section putInd
variable (s : State) (c : Nat) (b : Bool)

@[simp] theorem State.putInd_cfg : (s.putInd c b).cfg = s.cfg := rfl
@[simp] theorem State.putInd_indCnt : (s.putInd c b).indCnt = c := rfl
@[simp] theorem State.putInd_lit : (s.putInd c b).lit = b := rfl
@[simp] theorem State.putInd_gateCnt : (s.putInd c b).gateCnt = s.gateCnt := rfl
@[simp] theorem State.putInd_pulseCnt : (s.putInd c b).pulseCnt = s.pulseCnt := rfl
@[simp] theorem State.putInd_spoolFwd : (s.putInd c b).spoolFwd = s.spoolFwd := rfl
@[simp] theorem State.putInd_spoolRev : (s.putInd c b).spoolRev = s.spoolRev := rfl
@[simp] theorem State.putInd_guideFwd : (s.putInd c b).guideFwd = s.guideFwd := rfl
@[simp] theorem State.putInd_guideRev : (s.putInd c b).guideRev = s.guideRev := rfl
@[simp] theorem State.putInd_ret : (s.putInd c b).ret = s.ret := rfl
@[simp] theorem State.putInd_script : (s.putInd c b).script = s.script := rfl
@[simp] theorem State.putInd_hostIx : (s.putInd c b).hostIx = s.hostIx := rfl

end putInd

section putGate
variable (s : State) (c : Nat)

@[simp] theorem State.putGate_cfg : (s.putGate c).cfg = s.cfg := rfl
@[simp] theorem State.putGate_indCnt : (s.putGate c).indCnt = s.indCnt := rfl
@[simp] theorem State.putGate_lit : (s.putGate c).lit = s.lit := rfl
@[simp] theorem State.putGate_gateCnt : (s.putGate c).gateCnt = c := rfl
@[simp] theorem State.putGate_pulseCnt : (s.putGate c).pulseCnt = s.pulseCnt := rfl
@[simp] theorem State.putGate_spoolFwd : (s.putGate c).spoolFwd = s.spoolFwd := rfl
@[simp] theorem State.putGate_spoolRev : (s.putGate c).spoolRev = s.spoolRev := rfl
@[simp] theorem State.putGate_guideFwd : (s.putGate c).guideFwd = s.guideFwd := rfl
@[simp] theorem State.putGate_guideRev : (s.putGate c).guideRev = s.guideRev := rfl
@[simp] theorem State.putGate_ret : (s.putGate c).ret = s.ret := rfl
@[simp] theorem State.putGate_script : (s.putGate c).script = s.script := rfl
@[simp] theorem State.putGate_hostIx : (s.putGate c).hostIx = s.hostIx := rfl

end putGate

section putPulse
variable (s : State) (c : Nat)

@[simp] theorem State.putPulse_cfg : (s.putPulse c).cfg = s.cfg := rfl
@[simp] theorem State.putPulse_indCnt : (s.putPulse c).indCnt = s.indCnt := rfl
@[simp] theorem State.putPulse_lit : (s.putPulse c).lit = s.lit := rfl
@[simp] theorem State.putPulse_gateCnt : (s.putPulse c).gateCnt = s.gateCnt := rfl
@[simp] theorem State.putPulse_pulseCnt : (s.putPulse c).pulseCnt = c := rfl
@[simp] theorem State.putPulse_spoolFwd : (s.putPulse c).spoolFwd = s.spoolFwd := rfl
@[simp] theorem State.putPulse_spoolRev : (s.putPulse c).spoolRev = s.spoolRev := rfl
@[simp] theorem State.putPulse_guideFwd : (s.putPulse c).guideFwd = s.guideFwd := rfl
@[simp] theorem State.putPulse_guideRev : (s.putPulse c).guideRev = s.guideRev := rfl
@[simp] theorem State.putPulse_ret : (s.putPulse c).ret = s.ret := rfl
@[simp] theorem State.putPulse_script : (s.putPulse c).script = s.script := rfl
@[simp] theorem State.putPulse_hostIx : (s.putPulse c).hostIx = s.hostIx := rfl

end putPulse

section putSpool
variable (s : State) (a : Axis)

@[simp] theorem State.putSpool_cfg : (s.putSpool a).cfg = s.cfg := rfl
@[simp] theorem State.putSpool_indCnt : (s.putSpool a).indCnt = s.indCnt := rfl
@[simp] theorem State.putSpool_lit : (s.putSpool a).lit = s.lit := rfl
@[simp] theorem State.putSpool_gateCnt : (s.putSpool a).gateCnt = s.gateCnt := rfl
@[simp] theorem State.putSpool_pulseCnt : (s.putSpool a).pulseCnt = s.pulseCnt := rfl
@[simp] theorem State.putSpool_spoolFwd : (s.putSpool a).spoolFwd = a.fwd := rfl
@[simp] theorem State.putSpool_spoolRev : (s.putSpool a).spoolRev = a.rev := rfl
@[simp] theorem State.putSpool_guideFwd : (s.putSpool a).guideFwd = s.guideFwd := rfl
@[simp] theorem State.putSpool_guideRev : (s.putSpool a).guideRev = s.guideRev := rfl
@[simp] theorem State.putSpool_ret : (s.putSpool a).ret = s.ret := rfl
@[simp] theorem State.putSpool_script : (s.putSpool a).script = s.script := rfl
@[simp] theorem State.putSpool_hostIx : (s.putSpool a).hostIx = s.hostIx := rfl

end putSpool

section putGuide
variable (s : State) (a : Axis)

@[simp] theorem State.putGuide_cfg : (s.putGuide a).cfg = s.cfg := rfl
@[simp] theorem State.putGuide_indCnt : (s.putGuide a).indCnt = s.indCnt := rfl
@[simp] theorem State.putGuide_lit : (s.putGuide a).lit = s.lit := rfl
@[simp] theorem State.putGuide_gateCnt : (s.putGuide a).gateCnt = s.gateCnt := rfl
@[simp] theorem State.putGuide_pulseCnt : (s.putGuide a).pulseCnt = s.pulseCnt := rfl
@[simp] theorem State.putGuide_spoolFwd : (s.putGuide a).spoolFwd = s.spoolFwd := rfl
@[simp] theorem State.putGuide_spoolRev : (s.putGuide a).spoolRev = s.spoolRev := rfl
@[simp] theorem State.putGuide_guideFwd : (s.putGuide a).guideFwd = a.fwd := rfl
@[simp] theorem State.putGuide_guideRev : (s.putGuide a).guideRev = a.rev := rfl
@[simp] theorem State.putGuide_ret : (s.putGuide a).ret = s.ret := rfl
@[simp] theorem State.putGuide_script : (s.putGuide a).script = s.script := rfl
@[simp] theorem State.putGuide_hostIx : (s.putGuide a).hostIx = s.hostIx := rfl

end putGuide

section answer
variable (s : State) (r : Ret)

@[simp] theorem State.answer_cfg : (s.answer r).cfg = s.cfg := rfl
@[simp] theorem State.answer_indCnt : (s.answer r).indCnt = s.indCnt := rfl
@[simp] theorem State.answer_lit : (s.answer r).lit = s.lit := rfl
@[simp] theorem State.answer_gateCnt : (s.answer r).gateCnt = s.gateCnt := rfl
@[simp] theorem State.answer_pulseCnt : (s.answer r).pulseCnt = s.pulseCnt := rfl
@[simp] theorem State.answer_spoolFwd : (s.answer r).spoolFwd = s.spoolFwd := rfl
@[simp] theorem State.answer_spoolRev : (s.answer r).spoolRev = s.spoolRev := rfl
@[simp] theorem State.answer_guideFwd : (s.answer r).guideFwd = s.guideFwd := rfl
@[simp] theorem State.answer_guideRev : (s.answer r).guideRev = s.guideRev := rfl
@[simp] theorem State.answer_ret : (s.answer r).ret = r := rfl
@[simp] theorem State.answer_script : (s.answer r).script = s.script := rfl
@[simp] theorem State.answer_hostIx : (s.answer r).hostIx = s.hostIx := rfl

end answer

section place
variable (s : State) (r : Request)

@[simp] theorem State.place_cfg : (s.place r).cfg = s.cfg := rfl
@[simp] theorem State.place_indCnt : (s.place r).indCnt = s.indCnt := rfl
@[simp] theorem State.place_lit : (s.place r).lit = s.lit := rfl
@[simp] theorem State.place_gateCnt : (s.place r).gateCnt = s.gateCnt := rfl
@[simp] theorem State.place_pulseCnt : (s.place r).pulseCnt = s.pulseCnt := rfl
@[simp] theorem State.place_spoolFwd : (s.place r).spoolFwd = s.spoolFwd := rfl
@[simp] theorem State.place_spoolRev : (s.place r).spoolRev = s.spoolRev := rfl
@[simp] theorem State.place_guideFwd : (s.place r).guideFwd = s.guideFwd := rfl
@[simp] theorem State.place_guideRev : (s.place r).guideRev = s.guideRev := rfl
@[simp] theorem State.place_ret : (s.place r).ret = s.ret := rfl
@[simp] theorem State.place_script : (s.place r).script = r :: s.script := rfl
@[simp] theorem State.place_hostIx : (s.place r).hostIx = s.hostIx := rfl

end place

section placeWords
variable (s : State) (ws : List Ctl)

@[simp] theorem State.placeWords_cfg : (s.placeWords ws).cfg = s.cfg := rfl
@[simp] theorem State.placeWords_indCnt : (s.placeWords ws).indCnt = s.indCnt := rfl
@[simp] theorem State.placeWords_lit : (s.placeWords ws).lit = s.lit := rfl
@[simp] theorem State.placeWords_gateCnt : (s.placeWords ws).gateCnt = s.gateCnt := rfl
@[simp] theorem State.placeWords_pulseCnt : (s.placeWords ws).pulseCnt = s.pulseCnt := rfl
@[simp] theorem State.placeWords_spoolFwd : (s.placeWords ws).spoolFwd = s.spoolFwd := rfl
@[simp] theorem State.placeWords_spoolRev : (s.placeWords ws).spoolRev = s.spoolRev := rfl
@[simp] theorem State.placeWords_guideFwd : (s.placeWords ws).guideFwd = s.guideFwd := rfl
@[simp] theorem State.placeWords_guideRev : (s.placeWords ws).guideRev = s.guideRev := rfl
@[simp] theorem State.placeWords_ret : (s.placeWords ws).ret = s.ret := rfl
@[simp] theorem State.placeWords_script : (s.placeWords ws).script = ws.map Request.ctl ++ s.script := rfl
@[simp] theorem State.placeWords_hostIx : (s.placeWords ws).hostIx = s.hostIx := rfl

end placeWords

section resetRegisters
variable (s : State)

@[simp] theorem State.resetRegisters_cfg : s.resetRegisters.cfg = s.cfg := rfl
@[simp] theorem State.resetRegisters_indCnt : s.resetRegisters.indCnt = 0 := rfl
@[simp] theorem State.resetRegisters_lit : s.resetRegisters.lit = false := rfl
@[simp] theorem State.resetRegisters_gateCnt : s.resetRegisters.gateCnt = 0 := rfl
@[simp] theorem State.resetRegisters_pulseCnt : s.resetRegisters.pulseCnt = 0 := rfl
@[simp] theorem State.resetRegisters_spoolFwd : s.resetRegisters.spoolFwd = 0 := rfl
@[simp] theorem State.resetRegisters_spoolRev : s.resetRegisters.spoolRev = 0 := rfl
@[simp] theorem State.resetRegisters_guideFwd : s.resetRegisters.guideFwd = 0 := rfl
@[simp] theorem State.resetRegisters_guideRev : s.resetRegisters.guideRev = 0 := rfl
@[simp] theorem State.resetRegisters_ret : s.resetRegisters.ret = s.ret := rfl
@[simp] theorem State.resetRegisters_script : s.resetRegisters.script = s.script := rfl
@[simp] theorem State.resetRegisters_hostIx : s.resetRegisters.hostIx = s.hostIx := rfl

end resetRegisters

section resetWith
variable (c : Cfg)

@[simp] theorem State.resetWith_cfg : (State.resetWith c).cfg = c := rfl
@[simp] theorem State.resetWith_indCnt : (State.resetWith c).indCnt = 0 := rfl
@[simp] theorem State.resetWith_lit : (State.resetWith c).lit = false := rfl
@[simp] theorem State.resetWith_gateCnt : (State.resetWith c).gateCnt = 0 := rfl
@[simp] theorem State.resetWith_pulseCnt : (State.resetWith c).pulseCnt = 0 := rfl
@[simp] theorem State.resetWith_spoolFwd : (State.resetWith c).spoolFwd = 0 := rfl
@[simp] theorem State.resetWith_spoolRev : (State.resetWith c).spoolRev = 0 := rfl
@[simp] theorem State.resetWith_guideFwd : (State.resetWith c).guideFwd = 0 := rfl
@[simp] theorem State.resetWith_guideRev : (State.resetWith c).guideRev = 0 := rfl
@[simp] theorem State.resetWith_ret : (State.resetWith c).ret = .nothing := rfl
@[simp] theorem State.resetWith_script : (State.resetWith c).script = [] := rfl
@[simp] theorem State.resetWith_hostIx : (State.resetWith c).hostIx = 0 := rfl

end resetWith

end Sys2Proof.Machine
end

