-- ==== Sys2Proof/Laws/Ops.lean ====
section
/-! SUPPORT. What each shared operation can do, said once: the provers cite these lemmas instead of unfolding. -/

namespace Sys2Proof.Machine

/-- The configuration check lets an operation answer a next state exactly on a valid configuration. -/
theorem whenConfigured_eq_next {s t : State} {go : Host.Outcome State Fault Refusal} :
    whenConfigured s go = .next t ↔ CfgValid s.cfg ∧ go = .next t := by
  unfold whenConfigured
  split
  · next h => exact ⟨fun e => ⟨h, e⟩, fun e => e.2⟩
  · next h => exact ⟨fun e => by simp at e, fun e => absurd e.1 h⟩

theorem whenConfigured_of_valid {s : State} (h : CfgValid s.cfg) (go : Host.Outcome State Fault Refusal) :
    whenConfigured s go = go := if_pos h

/-- The period check lets an operation answer a next state exactly below the counter's period. -/
theorem whenInPeriod_eq_next {k : Counter} {s t : State} {go : Host.Outcome State Fault Refusal} :
    whenInPeriod k s go = .next t ↔ s.counter k < periodOf s.cfg k ∧ go = .next t := by
  unfold whenInPeriod State.inPeriod
  split <;> simp_all

theorem whenInPeriod_of_lt {k : Counter} {s : State} (h : s.counter k < periodOf s.cfg k)
    (go : Host.Outcome State Fault Refusal) : whenInPeriod k s go = go :=
  if_pos (decide_eq_true h)

/-- All that the configuration check can do: let the operation run, or refuse it by name on an invalid one. -/
theorem whenConfigured_cases (s : State) (go : Host.Outcome State Fault Refusal) :
    (CfgValid s.cfg ∧ whenConfigured s go = go) ∨
      (¬ CfgValid s.cfg ∧ whenConfigured s go = .refused .invalidConfig) := by
  by_cases h : CfgValid s.cfg
  · exact .inl ⟨h, if_pos h⟩
  · exact .inr ⟨h, if_neg h⟩

/-- All that the period check can do: let the operation run, or refuse it by the counter's name. -/
theorem whenInPeriod_cases (k : Counter) (s : State) (go : Host.Outcome State Fault Refusal) :
    (s.counter k < periodOf s.cfg k ∧ whenInPeriod k s go = go) ∨
      (periodOf s.cfg k ≤ s.counter k ∧ whenInPeriod k s go = .refused (.counterOutOfRange k)) := by
  rcases Nat.lt_or_ge (s.counter k) (periodOf s.cfg k) with h | h
  · exact .inl ⟨h, whenInPeriod_of_lt h go⟩
  · exact .inr ⟨h, if_neg fun e => Nat.not_lt.2 h (of_decide_eq_true e)⟩

/-- The narrowing in NEXTLEVEL drops nothing: as naturals, the result is the target, or a rise of `maxStep` cut off
at the target. -/
theorem nextLevel_toNat (current target maxStep : Level) :
    (nextLevel current target maxStep).toNat =
      if target.toNat ≤ current.toNat then target.toNat
      else min target.toNat (current.toNat + maxStep.toNat) := by
  have hc := current.isLt
  have ht := target.isLt
  have hm := maxStep.isLt
  unfold nextLevel zext
  rw [BitVec.toNat_ofInt]
  split <;> split <;> omega

/-- A target of zero is reached at once. -/
@[simp] theorem nextLevel_zero (current maxStep : Level) : nextLevel current 0#8 maxStep = 0#8 := by
  apply BitVec.eq_of_toNat_eq
  simp [nextLevel_toNat]

/-- With a reverse target of zero, what UPDATEAXIS makes of an axis whose reverse level is zero. -/
theorem updateAxis_forward (f target maxAcc : Level) :
    updateAxis ⟨f, 0⟩ target revTarget maxAcc = ⟨nextLevel f target maxAcc, 0⟩ := by
  simp [updateAxis, revTarget]

/-- An axis with both levels nonzero is returned unchanged (R48 case iv). -/
theorem updateAxis_deadlock {a : Axis} (hf : a.fwd ≠ 0) (hr : a.rev ≠ 0) (fwdTarget revTarget maxAcc : Level) :
    updateAxis a fwdTarget revTarget maxAcc = a := by
  simp only [updateAxis, if_neg hf, if_neg hr]

/-- Below its period, a counter advances modulo the period. -/
theorem advance_lt {c period : Nat} (h : c < period) : advance c period < period := by
  unfold advance
  split <;> omega

/-- The counter that equals a tick count modulo its period does so after one more tick. -/
theorem advance_mod {period : Nat} (h : 0 < period) (n : Nat) :
    advance (n % period) period = (n + 1) % period := by
  have hlt := Nat.mod_lt n h
  unfold advance
  rw [← Nat.mod_add_mod n period 1]
  split
  · next heq => rw [heq, Nat.mod_self]
  · next hne => rw [Nat.mod_eq_of_lt (show n % period + 1 < period by omega)]

/-- The decoder accepts every request but an unassigned slot label. -/
theorem decode_eq_ok_of_wellFormed {r : Request} (h : r.wellFormed = true) : ∃ i, decode r = .ok i := by
  cases r with
  | seq w e p =>
    have all : ∀ v : SlotBits, v.toNat ≤ 4 → (decodeSlot v).isSome := by decide
    obtain ⟨slot, hs⟩ := Option.isSome_iff_exists.1 (all w (of_decide_eq_true h))
    exact ⟨slot.operation e p, by simp [decode, hs]⟩
  | _ => exact ⟨_, rfl⟩

/-- With a request placed, the step takes that request. -/
theorem takeRequest_cons {s : State} {r : Request} {rest : List Request} (h : s.script = r :: rest) :
    s.takeRequest = (r, { s with script := rest }) := by
  simp [State.takeRequest, h]

/-- With none placed, the step takes the host's own choice. -/
theorem takeRequest_nil {s : State} (h : s.script = []) :
    s.takeRequest = (.ctl (Config.hostCtl s.hostIx), { s with hostIx := s.hostIx + 1 }) := by
  simp [State.takeRequest, h]

/-- If the step answers a next state, the configuration is valid and the step ran the operation it decoded. -/
theorem step_eq_next {s t : State} (h : step s = .next t) :
    CfgValid s.cfg ∧ ∃ i, decode s.takeRequest.1 = .ok i ∧ exec i s.takeRequest.2 = .next t := by
  obtain ⟨hv, h⟩ := whenConfigured_eq_next.1 h
  refine ⟨hv, ?_⟩
  split at h
  · next i hi => exact ⟨i, hi, h⟩
  · simp at h

end Sys2Proof.Machine
end

