-- ==== Sys2Proof/Laws/PerInstr.lean ====
section
/-! SUPPORT. The statement made of every instruction, one lemma per constructor: an operation is encoded in the format
its row of spec/opcode_table.json gives it (R38, R39, R40). -/

namespace Sys2Proof.Laws.EncodedFormat

/-- The request that encodes an operation has the operation's format, and selects some operation. -/
def Statement (i : Instr) : Prop := (encode i).format = i.format ∧ (encode i).wellFormed = true

theorem hold : Statement .hold := ⟨rfl, rfl⟩
theorem tick : Statement .tick := ⟨rfl, rfl⟩
theorem reset : Statement .reset := ⟨rfl, rfl⟩
theorem indTick : Statement .indTick := ⟨rfl, rfl⟩
theorem gateTick : Statement .gateTick := ⟨rfl, rfl⟩
theorem updSpool (enabled : Bool) : Statement (.updSpool enabled) := ⟨rfl, rfl⟩
theorem pulseTick : Statement .pulseTick := ⟨rfl, rfl⟩
theorem updGuide (enabled pulseActive : Bool) : Statement (.updGuide enabled pulseActive) := ⟨rfl, rfl⟩
theorem nextLevel (current target maxStep : Level) : Statement (.nextLevel current target maxStep) := ⟨rfl, rfl⟩
theorem updateAxis (axis : Axis) (fwdTarget revTarget maxAcc : Level) :
    Statement (.updateAxis axis fwdTarget revTarget maxAcc) := ⟨rfl, rfl⟩
theorem dccTick (c on off : Nat) : Statement (.dccTick c on off) := ⟨rfl, rfl⟩

end Sys2Proof.Laws.EncodedFormat
end

