-- ==== Sys2Proof/Tests/Slice0.lean ====
section
/-! SUPPORT. Small tests on one step or one call, with expected results from spec/95_test_vectors.md or from the
encoding tables of spec/30_encoding.md, and for every obligation with hypotheses a witness that meets them all. -/

namespace Sys2Proof.Tests

open Sys2Proof.Machine

/-! ### Helpers -/

/-- Configuration K1 of 95_test_vectors.md. -/
def k1 : Cfg := ⟨2, 3, 2, 2, 3, 0x40, 0x18, 0x80, 0x80, 16, 100⟩

/-- Configuration K2 of 95_test_vectors.md. -/
def k2 : Cfg := ⟨3, 4, 1, 3, 1, 0xFF, 0x55, 0x64, 0x28, 16, 100⟩

/-- A configuration that fails V5 (93_implementation_defined.md section 2). -/
def noAcceleration : Cfg := { k1 with spoolAcc := 0 }

/-- A state of a core, registers in the order of 95_test_vectors.md. -/
def core (c : Cfg) (ind : Nat) (lit : Bool) (gate pulse : Nat) (sf sr gf gr : Level) : State :=
  ⟨c, ind, lit, gate, pulse, sf, sr, gf, gr, .nothing, [], 0⟩

/-- The state before T-CTL-8. -/
def midRun : State := core k1 0 true 2 2 0x30 0 0x80 0

/-- A running state with both axes deadlocked. -/
def deadlocked : State := core k1 0 false 0 0 1 1 2 2

/-- The operation answers a next state that passes the check. -/
def answers (o : Host.Outcome State Fault Refusal) (check : State → Bool) : Bool :=
  match o with
  | .next t => check t
  | _ => false

/-- The operation is refused under that name. -/
def refuses (o : Host.Outcome State Fault Refusal) (r : Refusal) : Bool :=
  match o with
  | .refused q => decide (q = r)
  | _ => false

/-- The registers and the returned value of `t`. -/
def looksLike (u : State) (r : Ret) (t : State) : Bool := decide ({ u with ret := r } = t)

/-! ### Ill-formed terms -/

theorem test_wellFormed_refuses_counter_at_period : (Instr.dccTick 5 2 3).wellFormed 16 = false := by decide
theorem test_wellFormed_refuses_period_zero : (Instr.dccTick 0 0 0).wellFormed 16 = false := by decide
theorem test_wellFormed_refuses_period_too_wide : (Instr.dccTick 0 65536 0).wellFormed 16 = false := by decide
theorem test_wellFormed_refuses_slot_5 : (Request.seq 0b101 true true).wellFormed = false := by decide
theorem test_wellFormed_accepts_widest_period : (Instr.dccTick 65534 65535 0).wellFormed 16 = true := by decide

/-! ### Decoding: words written out from R39 and R42 -/

theorem test_decode_hold : decode (.ctl 0b00) = .ok .hold := rfl
theorem test_decode_tick : decode (.ctl 0b01) = .ok .tick := rfl
theorem test_decode_reset : decode (.ctl 0b10) = .ok .reset := rfl
theorem test_decode_reset_drops_tick : decode (.ctl 0b11) = .ok .reset := rfl
theorem test_decode_slot_000 : decode (.seq 0b000 false false) = .ok .indTick := rfl
theorem test_decode_slot_001 : decode (.seq 0b001 false false) = .ok .gateTick := rfl
theorem test_decode_slot_010 : decode (.seq 0b010 true false) = .ok (.updSpool true) := rfl
theorem test_decode_slot_011 : decode (.seq 0b011 false false) = .ok .pulseTick := rfl
theorem test_decode_slot_100 : decode (.seq 0b100 true false) = .ok (.updGuide true false) := rfl
theorem test_decode_slot_101 : decode (.seq 0b101 false false) = .error (.unassignedSlot 0b101) := rfl
theorem test_decode_nextLevel : decode (.nextLevel 0x18 0x40 0x18) = .ok (.nextLevel 0x18 0x40 0x18) := rfl
theorem test_decode_updateAxis :
    decode (.updateAxis ⟨0x10, 0⟩ 0x40 0 0x10) = .ok (.updateAxis ⟨0x10, 0⟩ 0x40 0 0x10) := rfl
theorem test_decode_dccTick : decode (.dccTick 4 2 3) = .ok (.dccTick 4 2 3) := rfl

theorem test_tableWord_ctl : [0, 1, 2, 3].map (decodeTableWord 2) =
    [some .hold, some .tick, some .reset, some .reset] := by decide
theorem test_tableWord_seq : [0, 1, 2, 3, 4, 5].map (decodeTableWord 3) =
    [some .indTick, some .gateTick, some (.updSpool false), some .pulseTick, some (.updGuide false false), none] := by
  decide

/-! ### Operations: vectors of 95_test_vectors.md -/

/-- T-CTL-7. -/
theorem test_hold : answers (exec .hold midRun) (looksLike midRun .nothing) = true := by decide

/-- T-CTL-8: the pulse ends, the guide drops, the spool saturates. -/
theorem test_tick_pulse_ends : answers (exec .tick midRun)
    (looksLike (core k1 1 true 3 3 0x40 0 0 0) (.observation false true false)) = true := by decide

/-- T-CTL-6: the indicator boundary. -/
theorem test_tick_boundary : answers (exec .tick (core k1 1 false 1 1 0x18 0 0x80 0))
    (looksLike (core k1 0 true 2 2 0x30 0 0x80 0) (.observation true true true)) = true := by decide

/-- T-CTL-11. -/
theorem test_reset : answers (exec .reset (core k1 1 true 3 3 0x40 0 0 0))
    (looksLike (core k1 0 false 0 0 0 0 0 0) .nothing) = true := by decide

/-- RESET leaves a deadlock (R77). -/
theorem test_reset_leaves_deadlock : answers (exec .reset deadlocked)
    (looksLike (core k1 0 false 0 0 0 0 0 0) .nothing) = true := by decide

/-- T-IND-3, third call. -/
theorem test_indTick_flips : answers (exec .indTick (core k2 2 false 0 0 0 0 0 0))
    (looksLike (core k2 0 true 0 0 0 0 0 0) (.toggled true)) = true := by decide

/-- T-IND-3, fourth call. -/
theorem test_indTick_counts : answers (exec .indTick (core k2 0 true 0 0 0 0 0 0))
    (looksLike (core k2 1 true 0 0 0 0 0 0) (.toggled false)) = true := by decide

/-- EX5: tick index 1199 is the last enabled one. -/
theorem test_gateTick_last_enabled : answers (exec .gateTick (core .profileP8 0 false 1199 0 0 0 0 0))
    (looksLike (core .profileP8 0 false 1200 0 0 0 0 0) (.enabled true)) = true := by decide

/-- EX5: tick index 7199 ends the cycle. -/
theorem test_gateTick_wraps : answers (exec .gateTick (core .profileP8 0 false 7199 0 0 0 0 0))
    (looksLike (core .profileP8 0 false 0 0 0 0 0 0) (.enabled false)) = true := by decide

/-- T-DCC-8: call 10 is the last active one. -/
theorem test_pulseTick_last_active : answers (exec .pulseTick (core .profileP8 0 false 0 9 0 0 0 0))
    (looksLike (core .profileP8 0 false 0 10 0 0 0 0) (.pulseActive true)) = true := by decide

/-- T-DCC-8: call 11 is inactive. -/
theorem test_pulseTick_first_inactive : answers (exec .pulseTick (core .profileP8 0 false 0 10 0 0 0 0))
    (looksLike (core .profileP8 0 false 0 11 0 0 0 0) (.pulseActive false)) = true := by decide

/-- T-MD-3. -/
theorem test_updSpool_saturates : answers (exec (.updSpool true) (core k1 0 false 0 0 0x30 0 0 0))
    (looksLike (core k1 0 false 0 0 0x40 0 0 0) .nothing) = true := by decide

/-- T-MD-5. -/
theorem test_updSpool_drops : answers (exec (.updSpool false) (core k1 0 false 0 0 0x40 0 0 0))
    (looksLike (core k1 0 false 0 0 0 0 0 0) .nothing) = true := by decide

/-- T-MD-10. -/
theorem test_updGuide_saturates : answers (exec (.updGuide true true) (core k2 0 false 0 0 0 0 0x50 0))
    (looksLike (core k2 0 false 0 0 0 0 0x64 0) .nothing) = true := by decide

/-- T-MD-12. -/
theorem test_updGuide_needs_enable : answers (exec (.updGuide false true) (core k2 0 false 0 0 0 0 0x64 0))
    (looksLike (core k2 0 false 0 0 0 0 0 0) .nothing) = true := by decide

/-- T-NL-3, T-NL-7, T-NL-10, T-NL-11, T-NL-13, T-NL-16, T-NL-17, T-NL-20. -/
theorem test_nextLevel_vectors :
    nextLevel 0 64 24 = 24 ∧ nextLevel 64 0 24 = 0 ∧ nextLevel 0 255 255 = 255 ∧ nextLevel 255 0 1 = 0 ∧
    nextLevel 254 255 255 = 255 ∧ nextLevel 10 20 0 = 10 ∧ nextLevel 20 10 0 = 10 ∧ nextLevel 5 3 1 = 3 := by decide

theorem test_nextLevel_returns : answers (exec (.nextLevel 0x18 0x40 0x18) midRun)
    (looksLike midRun (.level 0x30)) = true := by decide

/-- T-AX-3, T-AX-5, T-AX-7, T-AX-8, T-AX-13. -/
theorem test_updateAxis_vectors :
    updateAxis ⟨0x40, 0⟩ 0 0x40 0x10 = ⟨0, 0⟩ ∧ updateAxis ⟨0, 0x10⟩ 0 0x40 0x10 = ⟨0, 0x20⟩ ∧
    updateAxis ⟨0, 0⟩ 0x40 0x40 0x10 = ⟨0x10, 0x10⟩ ∧ updateAxis ⟨0x10, 0x10⟩ 0 0 0x10 = ⟨0x10, 0x10⟩ ∧
    updateAxis ⟨0x40, 0⟩ 0x40 0x40 0x10 = ⟨0x40, 0⟩ := by decide

theorem test_updateAxis_returns : answers (exec (.updateAxis ⟨0, 0x10⟩ 0x40 0 0x10) midRun)
    (looksLike midRun (.axis ⟨0, 0⟩)) = true := by decide

/-- T-DCC-12: the last tick of the cycle wraps. -/
theorem test_dccTick_wraps : answers (exec (.dccTick 4 2 3) midRun) (looksLike midRun (.duty false 0)) = true := by
  decide

/-- T-DCC-13: the widest period. -/
theorem test_dccTick_widest : answers (exec (.dccTick 65534 65535 0) midRun)
    (looksLike midRun (.duty true 0)) = true := by decide

/-! ### The step and the ports -/

/-- T-CTL-12: with both bits set, RESET. -/
theorem test_step_reset_wins : answers (step ((core k1 1 true 3 3 0x40 0 0 0).placeWords [0b11]))
    (looksLike (core k1 0 false 0 0 0 0 0 0) .nothing) = true := by decide

/-- P2, call 1: the first TICK after reset. -/
theorem test_step_first_tick : answers (step (State.reset.withFetchWord 2 1))
    (looksLike (core .profileP8 1 false 1 1 0x40 0 0x80 0) (.observation false true true)) = true := by decide

/-- An invalid configuration has no step (U1). -/
theorem test_step_invalid : refuses (step ((State.resetWith noAcceleration).placeWords [0b10])) .invalidConfig = true := by
  decide

/-- U8. -/
theorem test_step_slot_7 : refuses (step (State.reset.place (.seq 7 true true))) (.unassignedSlot 7) = true := by decide

/-- The ports in the states of T-CTL-8. -/
theorem test_ports : midRun.ports = ⟨true, 0x30, 0, 0x80, 0, true, false⟩ := by decide

/-- The script of P3 (95_test_vectors.md). -/
theorem test_script_P3 :
    (expandScript [(.reset, 1), (.tick, 2), (.hold, 2), (.tick, 2), (.reset, 1), (.tick, 1), (.hold, 1),
      (.tick, 1)]).map (fun w => w.toNat) = [2, 1, 1, 0, 0, 1, 1, 2, 1, 0, 1] := by decide

/-! ### Witnesses: a state and operands that meet the hypotheses of each obligation together -/

theorem witness_k1_valid : CfgValid k1 := by decide
theorem witness_k2_valid : CfgValid k2 := by decide
theorem witness_p8_valid : CfgValid Cfg.profileP8 := by decide
theorem witness_midRun_inv : Inv midRun := by constructor <;> decide
theorem witness_midRun_coreOnly : CoreOnly midRun := by decide

theorem witness_UnassignedSlotLabelsAreRefused :
    CfgValid midRun.cfg ∧ 5 ≤ (5 : SlotBits).toNat ∧
      (midRun.place (.seq 5 true false)).script = .seq 5 true false :: [] := by decide

theorem witness_StepRunsThePlacedRequest :
    CfgValid midRun.cfg ∧ (midRun.place (.ctl 1)).script = [.ctl 1] ∧ decode (.ctl 1) = .ok .tick :=
  ⟨by decide, rfl, rfl⟩

theorem witness_StepRunsTheHostsOwnWord : CfgValid midRun.cfg ∧ midRun.script = [] := by decide

theorem witness_InvalidConfigurationIsRefused : ¬ CfgValid (State.resetWith noAcceleration).cfg := by decide

/-- Each clause of NoOperationCanFail: an operation at the edge of its domain, the step that takes it, and for the
converse one operation refused on each of the three grounds. -/
theorem witness_NoOperationCanFail :
    (CfgValid midRun.cfg ∧ CountersInRange midRun ∧ (Instr.dccTick 65534 65535 0).wellFormed midRun.cfg.cw = true) ∧
    (CfgValid (midRun.place (.dccTick 65534 65535 0)).cfg ∧ CountersInRange (midRun.place (.dccTick 65534 65535 0)) ∧
      decode (midRun.place (.dccTick 65534 65535 0)).takeRequest.1 = .ok (.dccTick 65534 65535 0)) ∧
    refuses (exec .tick (State.resetWith noAcceleration)) .invalidConfig = true ∧
    refuses (exec .tick (core k1 2 false 0 0 0 0 0 0)) (.counterOutOfRange .ind) = true ∧
    refuses (exec (.dccTick 5 2 3) midRun) .dutyOperandsOutOfRange = true :=
  ⟨by decide, ⟨by decide, by decide, rfl⟩, by decide, by decide, by decide⟩

theorem witness_EveryStateOfTheCoreHasASuccessor : Inv midRun ∧ CoreOnly midRun :=
  ⟨witness_midRun_inv, witness_midRun_coreOnly⟩

theorem witness_ResetWinsOverTick :
    CfgValid (midRun.placeWords [0b11]).cfg ∧ (midRun.placeWords [0b11]).script = .ctl 0b11 :: [] := by decide

/-- Serves TickUpdatesEveryRegister, TickIsItsFiveSlotsInOrder and PhasePortsForetellTheObservation. -/
theorem witness_TickUpdatesEveryRegister : CfgValid midRun.cfg ∧ CountersInRange midRun := by decide

theorem witness_IndTickAdvancesThenFlips : CfgValid midRun.cfg ∧ midRun.indCnt < midRun.cfg.halfPeriod := by decide

theorem witness_GateTickReportsEnabled :
    CfgValid midRun.cfg ∧ midRun.gateCnt < midRun.cfg.enableOn + midRun.cfg.enableOff := by decide

theorem witness_PulseTickReportsPulseActive :
    CfgValid midRun.cfg ∧ midRun.pulseCnt < midRun.cfg.guideOn + midRun.cfg.guideOff := by decide

theorem witness_DccTickReportsPhaseAndAdvances :
    65534 < 65535 + 0 ∧ 65535 + 0 ≤ 2 ^ midRun.cfg.cw - 1 := by decide

theorem witness_DccTickOutsideItsDomainIsRefused :
    ¬ (5 < 2 + 3 ∧ 2 + 3 ≤ 2 ^ midRun.cfg.cw - 1) ∧ ¬ (0 < 65536 + 0 ∧ 65536 + 0 ≤ 2 ^ midRun.cfg.cw - 1) := by decide

/-- Each clause of CounterAboveItsPeriodIsRefused at its boundary, the counter equal to its period. -/
theorem witness_CounterAboveItsPeriodIsRefused :
    CfgValid k1 ∧ k1.halfPeriod ≤ (core k1 2 false 0 0 0 0 0 0).indCnt ∧
    (k1.enablePeriod ≤ (core k1 1 false 5 0 0 0 0 0).gateCnt ∧ (core k1 1 false 5 0 0 0 0 0).indCnt < k1.halfPeriod) ∧
    (k1.guidePeriod ≤ (core k1 1 false 4 5 0 0 0 0).pulseCnt ∧ (core k1 1 false 4 5 0 0 0 0).indCnt < k1.halfPeriod ∧
      (core k1 1 false 4 5 0 0 0 0).gateCnt < k1.enablePeriod) := by decide

theorem witness_UpdSpoolRampsTheSpoolPair : CfgValid midRun.cfg := by decide
theorem witness_UpdGuideRampsTheGuidePair : CfgValid midRun.cfg := by decide

/-- Each clause of RampClosedFormAndCallCount: an upward ramp, a downward move, a step bound of 0. -/
theorem witness_RampClosedFormAndCallCount :
    (1 ≤ (0x18 : Level).toNat ∧ (0 : Level).toNat ≤ (0x40 : Level).toNat) ∧
    ((0 : Level).toNat < (0x40 : Level).toNat ∧ 1 ≤ 1) ∧
    ((0 : Level).toNat = 0 ∧ (10 : Level).toNat < (20 : Level).toNat) := by decide

theorem witness_LegalPairStaysLegalUnderTheProviso :
    Legal ⟨0, 0⟩ ∧ ((⟨0, 0⟩ : Axis) = ⟨0, 0⟩ → 1 ≤ (0x10 : Level).toNat → (0x40 : Level) = 0 ∨ (0 : Level) = 0) := by
  decide

theorem witness_LegalPairStaysLegalWithoutTheProviso : Legal ⟨0x40, 0⟩ := by decide
theorem witness_DeadlockedAxisIsHeldForEver : (⟨1, 1⟩ : Axis).fwd ≠ 0 ∧ (⟨1, 1⟩ : Axis).rev ≠ 0 := by decide
theorem witness_ReversalCostsOneIdleCall : (0x40 : Level) ≠ 0 := by decide

theorem witness_DeadlockedAxisStopsNothingElse :
    CfgValid deadlocked.cfg ∧ CountersInRange deadlocked ∧ deadlocked.spoolFwd ≠ 0 ∧ deadlocked.spoolRev ≠ 0 ∧
      deadlocked.guideFwd ≠ 0 ∧ deadlocked.guideRev ≠ 0 := by decide

theorem witness_DutyCycleRepeatsForEver : 1 ≤ 2 + 3 := by decide

theorem witness_SpoolRisesBoundedAndDropsAtOnce :
    CfgValid midRun.cfg ∧ midRun.spoolRev = 0 ∧ midRun.spoolFwd.toNat ≤ midRun.cfg.spoolSpeed.toNat := by decide

theorem witness_GuideRisesOnlyWhenEnabledAndPulsing :
    CfgValid midRun.cfg ∧ midRun.guideRev = 0 ∧ midRun.guideFwd.toNat ≤ midRun.cfg.guideSpeed.toNat := by decide

/-- A step of the machine that answers a next state; serves NoStepRaisesALevelByMoreThanItsAcceleration and
TheConfigurationNeverChanges. -/
theorem witness_step : ∃ t, step (midRun.placeWords [0b01]) = .next t := by
  rw [step, whenConfigured_of_valid witness_k1_valid]
  exact ⟨_, rfl⟩

theorem witness_FunctionUnitsTouchNoRegister :
    (Instr.nextLevel 0 1 1).format = .fn ∧ ∃ t, exec (.nextLevel 0 1 1) midRun = .next t := ⟨rfl, _, rfl⟩

/-- HOLD is none of the writers of any register. -/
theorem witness_EachRegisterHasOnlyItsWriters :
    (∃ t, exec .hold midRun = .next t) ∧ Instr.hold ≠ .reset ∧ Instr.hold ≠ .tick ∧ Instr.hold ≠ .indTick ∧
    Instr.hold ≠ .gateTick ∧ Instr.hold ≠ .pulseTick ∧ (∀ e, Instr.hold ≠ .updSpool e) ∧
    (∀ e p, Instr.hold ≠ .updGuide e p) :=
  ⟨⟨_, rfl⟩, by decide, by decide, by decide, by decide, by decide, by decide, by decide⟩

theorem witness_RegistersAndOperationDetermineTheResult :
    SameCore midRun (midRun.placeWords [0b10]) ∧ ∃ t, exec .tick midRun = .next t :=
  ⟨⟨rfl, rfl, rfl, rfl, rfl, rfl, rfl, rfl, rfl⟩, _, rfl⟩

/-- Two states that agree on the configuration, the counters and the levels. -/
theorem witness_CountersAreIndependentInATick :
    midRun.cfg = (midRun.placeWords [0b10]).cfg ∧ (∃ t, exec .tick midRun = .next t) ∧
    (∃ t, exec .tick (midRun.placeWords [0b10]) = .next t) ∧
    SameCore midRun (midRun.placeWords [0b10]) :=
  ⟨rfl, ⟨_, rfl⟩, ⟨_, rfl⟩, rfl, rfl, rfl, rfl, rfl, rfl, rfl, rfl, rfl⟩

theorem witness_FirstTickAfterResetIsEnabled : CfgValid midRun.cfg ∧ 1 ≤ midRun.cfg.enableOn := by decide
theorem witness_CountersFitTheirWidth : Inv midRun := witness_midRun_inv

/-- Serves ResetMeetsTheReachabilityInvariant, EveryScriptEndsInTheTickCountForm and EveryRunOfTheHostMeetsTheInvariant. -/
theorem witness_ResetMeetsTheReachabilityInvariant : CfgValid k2 := witness_k2_valid

theorem witness_midRun_tick_inv : Inv (midRun.placeWords [0b01]) := by constructor <;> decide

theorem witness_EveryStepKeepsTheReachabilityInvariant :
    Inv (midRun.placeWords [0b01]) ∧ ∃ t, step (midRun.placeWords [0b01]) = .next t :=
  ⟨witness_midRun_tick_inv, witness_step⟩

theorem witness_NoStepBreaksTheSingleDirectionInvariant :
    Legal (midRun.placeWords [0b01]).spoolAxis ∧ Legal (midRun.placeWords [0b01]).guideAxis ∧
      ∃ t, step (midRun.placeWords [0b01]) = .next t :=
  ⟨by decide, by decide, witness_step⟩

theorem witness_ControlWordsAloneRunTopLevelOperations :
    CoreOnly (midRun.placeWords [0b01]) ∧ ∃ t, step (midRun.placeWords [0b01]) = .next t :=
  ⟨by decide, witness_step⟩

/-- The state after call 2 of program P1, which is that before T-CTL-8. -/
theorem witness_EachControlWordKeepsTheTickCountForm :
    CfgValid (midRun.placeWords [0b01]).cfg ∧ AfterTicks 2 (midRun.placeWords [0b01]) ∧
      (midRun.placeWords [0b01]).takeRequest = (.ctl 0b01, midRun) :=
  ⟨by decide, by constructor <;> decide, rfl⟩

theorem witness_HoldsBeforeATickAreInvisible : CfgValid midRun.cfg := witness_k1_valid
theorem witness_RepeatedResetsAreOneReset : CfgValid midRun.cfg ∧ 1 ≤ 3 := by decide

end Sys2Proof.Tests
end

section
/-! The configuration, the ports and the reset values (spec/10_state.md). First the layer the proofs share: when each
operation answers a next state, and which state that is; then what keeps `cfg`; then the obligations. -/

namespace Sys2Proof.Machine

/-! ### When an operation answers a next state -/

section answers
variable {s t : State}

theorem exec_hold_eq_next : exec .hold s = .next t ↔ s.answer .nothing = t := by
  rw [exec, execHold, Host.Outcome.next.injEq]

theorem exec_reset_eq_next : exec .reset s = .next t ↔ s.resetRegisters.answer .nothing = t := by
  rw [exec, execReset, Host.Outcome.next.injEq]

theorem exec_tick_eq_next :
    exec .tick s = .next t ↔ CfgValid s.cfg ∧ CountersInRange s ∧ tickSlots s = t := by
  simp only [exec, execTick, whenConfigured_eq_next, whenInPeriod_eq_next, Host.Outcome.next.injEq,
    State.counter, periodOf, CountersInRange, and_assoc]

theorem exec_indTick_eq_next :
    exec .indTick s = .next t ↔ CfgValid s.cfg ∧ s.indCnt < s.cfg.halfPeriod ∧
      (slotInd s).2.answer (.toggled (slotInd s).1) = t := by
  simp only [exec, execIndTick, whenConfigured_eq_next, whenInPeriod_eq_next, Host.Outcome.next.injEq,
    State.counter, periodOf]

theorem exec_gateTick_eq_next :
    exec .gateTick s = .next t ↔ CfgValid s.cfg ∧ s.gateCnt < s.cfg.enablePeriod ∧
      (slotGate s).2.answer (.enabled (slotGate s).1) = t := by
  simp only [exec, execGateTick, whenConfigured_eq_next, whenInPeriod_eq_next, Host.Outcome.next.injEq,
    State.counter, periodOf]

theorem exec_pulseTick_eq_next :
    exec .pulseTick s = .next t ↔ CfgValid s.cfg ∧ s.pulseCnt < s.cfg.guidePeriod ∧
      (slotPulse s).2.answer (.pulseActive (slotPulse s).1) = t := by
  simp only [exec, execPulseTick, whenConfigured_eq_next, whenInPeriod_eq_next, Host.Outcome.next.injEq,
    State.counter, periodOf]

theorem exec_updSpool_eq_next {enabled : Bool} :
    exec (.updSpool enabled) s = .next t ↔ CfgValid s.cfg ∧ (slotSpool enabled s).answer .nothing = t := by
  rw [exec, execUpdSpool, whenConfigured_eq_next, Host.Outcome.next.injEq]

theorem exec_updGuide_eq_next {enabled pulseActive : Bool} :
    exec (.updGuide enabled pulseActive) s = .next t ↔
      CfgValid s.cfg ∧ (slotGuide enabled pulseActive s).answer .nothing = t := by
  rw [exec, execUpdGuide, whenConfigured_eq_next, Host.Outcome.next.injEq]

theorem exec_nextLevel_eq_next {current target maxStep : Level} :
    exec (.nextLevel current target maxStep) s = .next t ↔
      s.answer (.level (nextLevel current target maxStep)) = t := by
  rw [exec, execNextLevel, Host.Outcome.next.injEq]

theorem exec_updateAxis_eq_next {axis : Axis} {fwdTarget revTarget maxAcc : Level} :
    exec (.updateAxis axis fwdTarget revTarget maxAcc) s = .next t ↔
      s.answer (.axis (updateAxis axis fwdTarget revTarget maxAcc)) = t := by
  rw [exec, execUpdateAxis, Host.Outcome.next.injEq]

theorem exec_dccTick_eq_next {c on off : Nat} :
    exec (.dccTick c on off) s = .next t ↔ (Instr.dccTick c on off).wellFormed s.cfg.cw = true ∧
      s.answer (.duty (dutyTick c on off).1 (dutyTick c on off).2) = t := by
  rw [exec, execDccTick]
  split
  · next h => simp only [h, true_and, Host.Outcome.next.injEq]
  · next h => simp only [h, false_and, reduceCtorEq]

end answers

/-! ### What leaves the configuration as it is -/

section cfg
variable (s : State)

@[simp] theorem slotInd_cfg : (slotInd s).2.cfg = s.cfg := rfl
@[simp] theorem slotGate_cfg : (slotGate s).2.cfg = s.cfg := rfl
@[simp] theorem slotPulse_cfg : (slotPulse s).2.cfg = s.cfg := rfl
@[simp] theorem slotSpool_cfg (enabled : Bool) : (slotSpool enabled s).cfg = s.cfg := rfl
@[simp] theorem slotGuide_cfg (enabled pulseActive : Bool) :
    (slotGuide enabled pulseActive s).cfg = s.cfg := rfl

@[simp] theorem tickSlots_cfg : (tickSlots s).cfg = s.cfg := by
  simp only [tickSlots, State.answer_cfg, slotGuide_cfg, slotPulse_cfg, slotSpool_cfg, slotGate_cfg, slotInd_cfg]

/-- Taking a request writes only the model's own `script` and `hostIx`. -/
@[simp] theorem takeRequest_cfg : s.takeRequest.2.cfg = s.cfg := by
  cases h : s.script with
  | nil => rw [takeRequest_nil h]
  | cons r rest => rw [takeRequest_cons h]

end cfg

/-- No operation writes a parameter (R21): every state an operation answers is made of named register writes. -/
theorem exec_keeps_cfg {i : Instr} {s t : State} (h : exec i s = .next t) : t.cfg = s.cfg := by
  cases i with
  | hold =>
    obtain rfl := exec_hold_eq_next.1 h
    exact State.answer_cfg s _
  | reset =>
    obtain rfl := exec_reset_eq_next.1 h
    exact State.resetRegisters_cfg s
  | tick =>
    obtain ⟨-, -, rfl⟩ := exec_tick_eq_next.1 h
    exact tickSlots_cfg s
  | indTick =>
    obtain ⟨-, -, rfl⟩ := exec_indTick_eq_next.1 h
    exact slotInd_cfg s
  | gateTick =>
    obtain ⟨-, -, rfl⟩ := exec_gateTick_eq_next.1 h
    exact slotGate_cfg s
  | pulseTick =>
    obtain ⟨-, -, rfl⟩ := exec_pulseTick_eq_next.1 h
    exact slotPulse_cfg s
  | updSpool enabled =>
    obtain ⟨-, rfl⟩ := exec_updSpool_eq_next.1 h
    exact slotSpool_cfg s enabled
  | updGuide enabled pulseActive =>
    obtain ⟨-, rfl⟩ := exec_updGuide_eq_next.1 h
    exact slotGuide_cfg s enabled pulseActive
  | nextLevel current target maxStep =>
    obtain rfl := exec_nextLevel_eq_next.1 h
    exact State.answer_cfg s _
  | updateAxis axis fwdTarget revTarget maxAcc =>
    obtain rfl := exec_updateAxis_eq_next.1 h
    exact State.answer_cfg s _
  | dccTick c on off =>
    obtain ⟨-, rfl⟩ := exec_dccTick_eq_next.1 h
    exact State.answer_cfg s _

theorem step_keeps_cfg {s t : State} (h : step s = .next t) : t.cfg = s.cfg := by
  obtain ⟨-, i, -, hi⟩ := step_eq_next h
  calc t.cfg = s.takeRequest.2.cfg := exec_keeps_cfg hi
    _ = s.cfg := takeRequest_cfg s

/-- Settles O40: an operation writes registers and `ret` only, and taking its request writes the script only. -/
theorem theConfigurationNeverChanges : Obligations.TheConfigurationNeverChanges :=
  ⟨fun _ _ _ => exec_keeps_cfg, fun _ _ => step_keeps_cfg⟩

/-! ### The ports and the reset values -/

theorem dutyPhase_zero (on : Nat) : dutyPhase 0 on = decide (1 ≤ on) := by
  simp only [dutyPhase, Nat.succ_le_iff]

/-- Settles O36: each port is a register or the phase of a counter on its present count (R18). -/
theorem portsAreFunctionsOfTheRegisters : Obligations.PortsAreFunctionsOfTheRegisters := by
  intro s
  simp only [State.ports, State.enabledNext, State.pulseNext, dutyPhase]

/-- The registers of R10 after reset, field by field. -/
theorem resetWith_sameCore (c : Cfg) :
    SameCore (State.resetWith c) ⟨c, 0, false, 0, 0, 0, 0, 0, 0, .nothing, [], 0⟩ := by
  simp [SameCore]

/-- After reset each phase port says whether its on phase has a length: the counter it compares is 0. -/
theorem resetWith_ports (c : Cfg) :
    (State.resetWith c).ports = ⟨false, 0, 0, 0, 0, decide (1 ≤ c.enableOn), decide (1 ≤ c.guideOn)⟩ := by
  simp [State.ports, State.enabledNext, State.pulseNext, dutyPhase_zero]

/-- Settles O43: the registers after reset, and from them the ports. -/
theorem resetStateIsIdleAndUnlit : Obligations.ResetStateIsIdleAndUnlit :=
  fun c => ⟨resetWith_sameCore c, resetWith_ports c⟩

/-- Settles O45: the profile's values are those of its definition, and V1 to V7 are closed numeral facts. -/
theorem profileP8IsValid : Obligations.ProfileP8IsValid :=
  ⟨rfl, by decide⟩

end Sys2Proof.Machine
end

section
/-! PROOF. The encoding (spec/30_encoding.md): the rows of the CTL opcode map against the decoder's two bit tests, and
the slot labels against the decoder of labels. -/

namespace Sys2Proof

/-! ### The rows of the CTL opcode map -/

/-- HOLD's mask keeps both bits, and its pattern has both clear. -/
theorem selects_hold (w : Ctl) : CtlRow.selects ⟨.hold, 0b00, 0b11⟩ w = (!w.getLsbD 1 && !w.getLsbD 0) := by
  revert w
  decide

/-- TICK's mask keeps both bits, and its pattern has `rst` clear and `tick` set. -/
theorem selects_tick (w : Ctl) : CtlRow.selects ⟨.tick, 0b01, 0b11⟩ w = (!w.getLsbD 1 && w.getLsbD 0) := by
  revert w
  decide

/-- RESET's mask keeps `rst` alone, so its row does not read `tick` (R75). -/
theorem selects_reset (w : Ctl) : CtlRow.selects ⟨.reset, 0b10, 0b10⟩ w = w.getLsbD 1 := by
  revert w
  decide

/-- The rows' conditions on the two bits exclude each other and cover every word, as the decoder's tests do. -/
theorem selectedRows_op (w : Ctl) : (ctlRows.filter (fun r => r.selects w)).map CtlRow.op = [decodeCtl w] := by
  simp only [ctlRows, List.filter_cons, List.filter_nil, selects_hold, selects_tick, selects_reset, decodeCtl]
  cases w.getLsbD 1 with
  | true => rfl
  | false => cases w.getLsbD 0 <;> rfl

/-! ### The slot labels -/

@[simp] theorem decodeSlot_label (slot : Slot) : decodeSlot slot.label = some slot := by
  cases slot <;> rfl

/-- Each arm of the label decoder fixes the label's number, and with it all three bits. -/
theorem eq_label_of_decodeSlot {w : SlotBits} {slot : Slot} (h : decodeSlot w = some slot) : w = slot.label := by
  unfold decodeSlot at h
  split at h <;> cases h <;> exact BitVec.eq_of_toNat_eq ‹_›

theorem decodeSlot_eq_some {w : SlotBits} {slot : Slot} : decodeSlot w = some slot ↔ w = slot.label :=
  ⟨eq_label_of_decodeSlot, fun h => h ▸ decodeSlot_label slot⟩

/-- Settles O1: the four words by evaluating the decoder, the rows and the labels by the lemmas above. -/
theorem eachControlWordSelectsOneRow : Obligations.EachControlWordSelectsOneRow :=
  ⟨rfl, rfl, rfl, rfl, selectedRows_op, fun _ _ => decodeSlot_eq_some, rfl⟩

end Sys2Proof
end

section
/-! PROOF. The ramp controller (spec/41_ramp_controller.md): the signed form of NEXTLEVEL from its closed form (R46),
and both function units answering without a register write. -/

namespace Sys2Proof.Machine

/-- The signed form of R45, from the closed form of R46: on a rise the clamp at `maxStep` is the closed form's minimum,
and on a fall the difference is not positive, so no clamp applies. -/
theorem nextLevel_toNat_eq_add_clamped (current target maxStep : Level) :
    ((nextLevel current target maxStep).toNat : Int) = (current.toNat : Int) +
      (if (target.toNat : Int) - current.toNat > maxStep.toNat then (maxStep.toNat : Int)
       else (target.toNat : Int) - current.toNat) := by
  rw [nextLevel_toNat]
  rcases le_or_gt target.toNat current.toNat with fall | rise
  · have unclamped : ¬ ((target.toNat : Int) - current.toNat > maxStep.toNat) := by omega
    rw [if_pos fall, if_neg unclamped]
    omega
  · rw [if_neg (Nat.not_le.2 rise)]
    split
    case isTrue clamped => omega
    case isFalse unclamped => omega

/-- Settles O24: NEXTLEVEL answers on every state, and the level it answers has the signed form. -/
theorem nextLevelClampsTheRiseOnly : Obligations.NextLevelClampsTheRiseOnly :=
  fun _ current target maxStep =>
    ⟨nextLevel current target maxStep, exec_nextLevel_eq_next.2 rfl,
      nextLevel_toNat_eq_add_clamped current target maxStep⟩

/-- Settles O25: UPDATEAXIS answers on every state, and its pair reads the two levels from the operand alone (D24). -/
theorem updateAxisTestsThePairBeforeTheCall : Obligations.UpdateAxisTestsThePairBeforeTheCall :=
  fun _ _ _ _ _ => exec_updateAxis_eq_next.2 rfl

end Sys2Proof.Machine
end

section
/-! PROOF. The duty-cycle counter (spec/42_duty_cycle_counter.md): the advance of a counter at and before its period,
what IND.TICK does on either side of its boundary, and the two-phase counters as DCC.TICK on their registers. -/

namespace Sys2Proof.Machine

/-! ### The advance of a counter -/

theorem advance_of_succ_eq {c period : Nat} (h : c + 1 = period) : advance c period = 0 := if_pos h

theorem advance_of_succ_ne {c period : Nat} (h : c + 1 ≠ period) : advance c period = c + 1 := if_neg h

/-! ### DCC.TICK and the two counters made of it -/

/-- The operand domain of R52 as two inequalities. -/
theorem dccTick_wellFormed_iff {cw c on off : Nat} :
    (Instr.dccTick c on off).wellFormed cw = true ↔ c < on + off ∧ on + off ≤ 2 ^ cw - 1 := by
  simp only [Instr.wellFormed, Bool.and_eq_true, decide_eq_true_eq]

/-- The pseudocode of R52: the phase reads the old count, the wrap test the advanced one (D11). -/
theorem dutyTick_eq (c on off : Nat) :
    dutyTick c on off = (decide (c < on), if c + 1 = on + off then 0 else c + 1) := rfl

/-- R57: the gate is DCC.TICK on `gate_cnt`. -/
theorem slotGate_eq_dutyTick (s : State) :
    slotGate s = ((dutyTick s.gateCnt s.cfg.enableOn s.cfg.enableOff).1,
      s.putGate (dutyTick s.gateCnt s.cfg.enableOn s.cfg.enableOff).2) := rfl

/-- R56: the pulse is DCC.TICK on `pulse_cnt`. -/
theorem slotPulse_eq_dutyTick (s : State) :
    slotPulse s = ((dutyTick s.pulseCnt s.cfg.guideOn s.cfg.guideOff).1,
      s.putPulse (dutyTick s.pulseCnt s.cfg.guideOn s.cfg.guideOff).2) := rfl

/-- Settles O19: DCC.TICK answers on its whole domain, and only in the returned value. -/
theorem dccTickReportsPhaseAndAdvances : Obligations.DccTickReportsPhaseAndAdvances := by
  intro s c on off below fits
  rw [exec_dccTick_eq_next, dutyTick_eq]
  exact ⟨dccTick_wellFormed_iff.2 ⟨below, fits⟩, rfl⟩

/-- Settles O17: GATE.TICK answers below its period, with DCC.TICK's results on `gate_cnt`. -/
theorem gateTickReportsEnabled : Obligations.GateTickReportsEnabled := by
  intro s valid below
  rw [exec_gateTick_eq_next, slotGate_eq_dutyTick, dutyTick_eq]
  exact ⟨valid, below, rfl⟩

/-- Settles O18: PULSE.TICK answers below its period, with DCC.TICK's results on `pulse_cnt`. -/
theorem pulseTickReportsPulseActive : Obligations.PulseTickReportsPulseActive := by
  intro s valid below
  rw [exec_pulseTick_eq_next, slotPulse_eq_dutyTick, dutyTick_eq]
  exact ⟨valid, below, rfl⟩

/-! ### IND.TICK -/

/-- On the boundary the advanced counter reaches its period: it restarts, and `lit` flips (R54, D10). -/
theorem slotInd_on_boundary {s : State} (h : s.indCnt + 1 = s.cfg.halfPeriod) :
    slotInd s = (true, s.putInd 0 (!s.lit)) := by
  have toggled : s.toggledNext = true := decide_eq_true h
  rw [slotInd, toggled, advance_of_succ_eq h, if_pos rfl]

/-- Off the boundary the counter advances and `lit` stays (R54). -/
theorem slotInd_off_boundary {s : State} (h : s.indCnt + 1 ≠ s.cfg.halfPeriod) :
    slotInd s = (false, s.putInd (s.indCnt + 1) s.lit) := by
  have still : s.toggledNext = false := decide_eq_false h
  rw [slotInd, still, advance_of_succ_ne h, if_neg Bool.false_ne_true]

/-- Settles O16: IND.TICK answers below its period, by the two sides of the boundary. -/
theorem indTickAdvancesThenFlips : Obligations.IndTickAdvancesThenFlips := by
  intro s valid below
  refine exec_indTick_eq_next.2 ⟨valid, below, ?_⟩
  split
  case isTrue boundary =>
    rw [slotInd_on_boundary boundary]
    rfl
  case isFalse counting =>
    rw [slotInd_off_boundary counting]
    rfl

end Sys2Proof.Machine
end

section
/-! PROOF. The motor driver (spec/43_motor_driver.md): each motor's slot as one UPDATEAXIS on its own pair, and the two
operations answering with that pair written and nothing returned. -/

namespace Sys2Proof.Machine

/-! ### The two slots as UPDATEAXIS on their pairs -/

/-- The pseudocode of R60, with the spool's targets written out (D9). -/
theorem slotSpool_eq_updateAxis (enabled : Bool) (s : State) :
    slotSpool enabled s = s.putSpool
      (updateAxis ⟨s.spoolFwd, s.spoolRev⟩ (if enabled then s.cfg.spoolSpeed else 0) 0 s.cfg.spoolAcc) := rfl

/-- The pseudocode of R61, with the guide's targets written out (D9): both booleans are needed to drive it. -/
theorem slotGuide_eq_updateAxis (enabled pulseActive : Bool) (s : State) :
    slotGuide enabled pulseActive s = s.putGuide
      (updateAxis ⟨s.guideFwd, s.guideRev⟩ (if enabled && pulseActive then s.cfg.guideSpeed else 0) 0
        s.cfg.guideAcc) := rfl

/-! ### The two operations -/

/-- Settles O22: UPD.SPOOL answers on every valid configuration, and its slot writes the spool's pair alone. -/
theorem updSpoolRampsTheSpoolPair : Obligations.UpdSpoolRampsTheSpoolPair := by
  intro s enabled valid pair
  rw [exec_updSpool_eq_next, slotSpool_eq_updateAxis]
  exact ⟨valid, rfl⟩

/-- Settles O23: UPD.GUIDE answers on every valid configuration, and its slot writes the guide's pair alone. -/
theorem updGuideRampsTheGuidePair : Obligations.UpdGuideRampsTheGuidePair := by
  intro s enabled pulseActive valid pair
  rw [exec_updGuide_eq_next, slotGuide_eq_updateAxis]
  exact ⟨valid, rfl⟩

end Sys2Proof.Machine
end

section
/-! PROOF. The control loop (spec/44_control_loop.md): TICK written out over the state before it, TICK as its slots run
one by one, its observation against the ports, and HOLD and RESET. -/

namespace Sys2Proof.Machine

/-! ### HOLD and RESET -/

/-- The ports are functions of the registers, so a returned value does not show at them (R25; log 4). -/
@[simp] theorem State.ports_answer (s : State) (r : Ret) : (s.answer r).ports = s.ports := rfl

/-- Settles O11: HOLD answers on every state, and the value it clears does not show at the ports. -/
theorem holdChangesNothing : Obligations.HoldChangesNothing :=
  fun s => ⟨exec_hold_eq_next.2 rfl, State.ports_answer s .nothing⟩

/-- Settles O12: RESET answers on every state with its eight register writes. -/
theorem resetClearsEveryRegister : Obligations.ResetClearsEveryRegister :=
  fun _ => exec_reset_eq_next.2 rfl

/-! ### TICK over the state before it -/

/-- No slot reads a register that an earlier slot of the same TICK wrote, so every write of TICK is a function of the
state before it; only the two phases are handed on (R63). -/
theorem tickSlots_eq_writes (s : State) :
    tickSlots s =
      (((((s.putInd (advance s.indCnt s.cfg.halfPeriod) (if s.toggledNext then !s.lit else s.lit)).putGate
        (advance s.gateCnt s.cfg.enablePeriod)).putSpool
        (updateAxis s.spoolAxis (spoolTarget s.cfg s.enabledNext) revTarget s.cfg.spoolAcc)).putPulse
        (advance s.pulseCnt s.cfg.guidePeriod)).putGuide
        (updateAxis s.guideAxis (guideTarget s.cfg s.enabledNext s.pulseNext) revTarget s.cfg.guideAcc)).answer
        (.observation s.toggledNext s.enabledNext s.pulseNext) := rfl

/-- Settles O14: TICK answers with the counters in range, and its writes are those of the state before it. -/
theorem tickUpdatesEveryRegister : Obligations.TickUpdatesEveryRegister :=
  fun s valid inRange => exec_tick_eq_next.2 ⟨valid, inRange, tickSlots_eq_writes s⟩

/-! ### TICK's observation -/

@[simp] theorem tickSlots_ret (s : State) :
    (tickSlots s).ret = .observation s.toggledNext s.enabledNext s.pulseNext := rfl

@[simp] theorem tickSlots_lit (s : State) :
    (tickSlots s).lit = if s.toggledNext then !s.lit else s.lit := rfl

/-- The toggle of a TICK is the change of `lit` (R64). -/
theorem tickSlots_lit_bne (s : State) : ((tickSlots s).lit != s.lit) = s.toggledNext := by
  rw [tickSlots_lit]
  cases s.toggledNext with
  | true => exact Bool.not_bne_self s.lit
  | false => exact bne_self_eq_false s.lit

/-- Settles O37: the toggle is the change of port `lit`, and each phase port is the phase the next TICK computes. -/
theorem phasePortsForetellTheObservation : Obligations.PhasePortsForetellTheObservation := by
  intro s valid inRange
  have observed : (tickSlots s).ret =
      .observation ((tickSlots s).ports.lit != s.ports.lit) s.ports.enablePhase s.ports.pulsePhase := by
    simp only [State.ports, tickSlots_lit_bne, tickSlots_ret]
  exact ⟨⟨_, exec_tick_eq_next.2 ⟨valid, inRange, rfl⟩, observed⟩,
    ⟨_, exec_hold_eq_next.2 rfl, State.answer_ret s .nothing⟩,
    ⟨_, exec_reset_eq_next.2 rfl, State.answer_ret s.resetRegisters .nothing⟩⟩

/-! ### TICK as its slots run one by one

Run by itself, a slot also leaves its result in `ret`, which no slot reads and the next operation overwrites. -/

section answer
variable (s : State) (r : Ret)

@[simp] theorem State.answer_answer (q : Ret) : (s.answer r).answer q = s.answer q := rfl

theorem slotGate_answer : slotGate (s.answer r) = ((slotGate s).1, (slotGate s).2.answer r) := rfl

theorem slotPulse_answer : slotPulse (s.answer r) = ((slotPulse s).1, (slotPulse s).2.answer r) := rfl

theorem slotSpool_answer (enabled : Bool) :
    slotSpool enabled (s.answer r) = (slotSpool enabled s).answer r := rfl

theorem slotGuide_answer (enabled pulseActive : Bool) :
    slotGuide enabled pulseActive (s.answer r) = (slotGuide enabled pulseActive s).answer r := rfl

end answer

/-- Each slot answers on the state the slot before it left: that slot wrote neither `cfg` nor this slot's counter. -/
theorem exec_slots_in_order {s : State} (valid : CfgValid s.cfg) (inRange : CountersInRange s) :
    let ind := slotInd s
    let gate := slotGate ind.2
    let spool := slotSpool gate.1 gate.2
    let pulse := slotPulse spool
    exec .indTick s = .next (ind.2.answer (.toggled ind.1)) ∧
    exec .gateTick (ind.2.answer (.toggled ind.1)) = .next (gate.2.answer (.enabled gate.1)) ∧
    exec (.updSpool gate.1) (gate.2.answer (.enabled gate.1)) = .next (spool.answer .nothing) ∧
    exec .pulseTick (spool.answer .nothing) = .next (pulse.2.answer (.pulseActive pulse.1)) ∧
    exec (.updGuide gate.1 pulse.1) (pulse.2.answer (.pulseActive pulse.1)) =
      .next ((slotGuide gate.1 pulse.1 pulse.2).answer .nothing) := by
  obtain ⟨indBelow, gateBelow, pulseBelow⟩ := inRange
  intro ind gate spool pulse
  refine ⟨?ind, ?gate, ?spool, ?pulse, ?guide⟩
  case ind => exact exec_indTick_eq_next.2 ⟨valid, indBelow, rfl⟩
  case gate => exact exec_gateTick_eq_next.2 ⟨valid, gateBelow, by rw [slotGate_answer, State.answer_answer]⟩
  case spool => exact exec_updSpool_eq_next.2 ⟨valid, by rw [slotSpool_answer, State.answer_answer]⟩
  case pulse => exact exec_pulseTick_eq_next.2 ⟨valid, pulseBelow, by rw [slotPulse_answer, State.answer_answer]⟩
  case guide => exact exec_updGuide_eq_next.2 ⟨valid, by rw [slotGuide_answer, State.answer_answer]⟩

/-- Settles O15: the slots run one by one reach the state that TICK's slots reach, but for the returned value. -/
theorem tickIsItsFiveSlotsInOrder : Obligations.TickIsItsFiveSlotsInOrder := by
  intro s valid inRange
  obtain ⟨ind, gate, spool, pulse, guide⟩ := exec_slots_in_order valid inRange
  exact ⟨_, _, _, _, _, _, _, _, ind, rfl, gate, rfl, spool, pulse, rfl, guide,
    exec_tick_eq_next.2 ⟨valid, inRange, rfl⟩⟩

end Sys2Proof.Machine
end

section
/-! PROOF. The exceptional situations (spec/60_exceptions.md): the control word with both bits set (R75), and a TICK
with a deadlocked axis (R73). -/

namespace Sys2Proof.Machine

/-! ### RESET's priority over TICK -/

/-- On a valid configuration, a step with a request placed is the operation of that request, on the state without it. -/
theorem step_of_script_cons {s : State} {r : Request} {rest : List Request} {i : Instr} (valid : CfgValid s.cfg)
    (placed : s.script = r :: rest) (decoded : decode r = .ok i) : step s = exec i { s with script := rest } := by
  rw [step, whenConfigured_of_valid valid, takeRequest_cons placed]
  simp only [decoded]

/-- Settles O13: the words 10 and 11 both decode to RESET, so both steps are RESET on the state without the word. -/
theorem resetWinsOverTick : Obligations.ResetWinsOverTick := by
  intro s rest valid placed
  have both : step s = exec .reset { s with script := rest } :=
    step_of_script_cons valid placed rfl
  have resetAlone : step { s with script := .ctl 0b10 :: rest } = exec .reset { s with script := rest } :=
    step_of_script_cons valid rfl rfl
  exact ⟨both.trans (resetClearsEveryRegister _), resetAlone.trans both.symm⟩

/-! ### TICK with a deadlocked axis -/

/-- Below its period a counter advances modulo the period: it is its own residue. -/
theorem advance_eq_mod {c period : Nat} (below : c < period) : advance c period = (c + 1) % period := by
  have advanced := advance_mod (Nat.zero_lt_of_lt below) c
  rwa [Nat.mod_eq_of_lt below] at advanced

section tickSlots
variable (s : State)

@[simp] theorem tickSlots_indCnt : (tickSlots s).indCnt = advance s.indCnt s.cfg.halfPeriod := rfl
@[simp] theorem tickSlots_gateCnt : (tickSlots s).gateCnt = advance s.gateCnt s.cfg.enablePeriod := rfl
@[simp] theorem tickSlots_pulseCnt : (tickSlots s).pulseCnt = advance s.pulseCnt s.cfg.guidePeriod := rfl

@[simp] theorem tickSlots_spoolAxis : (tickSlots s).spoolAxis =
    updateAxis s.spoolAxis (spoolTarget s.cfg s.enabledNext) revTarget s.cfg.spoolAcc := rfl

@[simp] theorem tickSlots_guideAxis : (tickSlots s).guideAxis =
    updateAxis s.guideAxis (guideTarget s.cfg s.enabledNext s.pulseNext) revTarget s.cfg.guideAcc := rfl

/-- In a TICK the spool is driven while the gate counts its on phase (R60). -/
theorem spoolTarget_enabledNext :
    spoolTarget s.cfg s.enabledNext = if s.gateCnt < s.cfg.enableOn then s.cfg.spoolSpeed else 0 := by
  simp only [spoolTarget, State.enabledNext, dutyPhase, decide_eq_true_eq]

/-- In a TICK the guide is driven while gate and pulse both count their on phase (R61). -/
theorem guideTarget_enabledNext_pulseNext :
    guideTarget s.cfg s.enabledNext s.pulseNext =
      if s.gateCnt < s.cfg.enableOn ∧ s.pulseCnt < s.cfg.guideOn then s.cfg.guideSpeed else 0 := by
  simp only [guideTarget, State.enabledNext, State.pulseNext, dutyPhase, Bool.and_eq_true, decide_eq_true_eq]

end tickSlots

section deadlock
variable {s : State}

/-- A deadlocked spool stands still in a TICK, whatever its target (R73). -/
theorem tickSlots_spoolAxis_of_deadlock (fwd : s.spoolFwd ≠ 0) (rev : s.spoolRev ≠ 0) :
    (tickSlots s).spoolAxis = s.spoolAxis :=
  (tickSlots_spoolAxis s).trans (updateAxis_deadlock fwd rev _ _ _)

/-- A deadlocked guide stands still in a TICK, whatever its target (R73). -/
theorem tickSlots_guideAxis_of_deadlock (fwd : s.guideFwd ≠ 0) (rev : s.guideRev ≠ 0) :
    (tickSlots s).guideAxis = s.guideAxis :=
  (tickSlots_guideAxis s).trans (updateAxis_deadlock fwd rev _ _ _)

end deadlock

/-- Settles O31: TICK's counters and its two pairs are each a function of the state before it, and neither pair's
function reads the other pair, so a deadlock is seen in its own pair alone. -/
theorem deadlockedAxisStopsNothingElse : Obligations.DeadlockedAxisStopsNothingElse := by
  intro s valid inRange
  have ⟨indBelow, gateBelow, pulseBelow⟩ := inRange
  have guideUpdated := tickSlots_guideAxis s
  have spoolUpdated := tickSlots_spoolAxis s
  rw [guideTarget_enabledNext_pulseNext] at guideUpdated
  rw [spoolTarget_enabledNext] at spoolUpdated
  refine ⟨tickSlots s, exec_tick_eq_next.2 ⟨valid, inRange, rfl⟩,
    (tickSlots_indCnt s).trans (advance_eq_mod indBelow), (tickSlots_gateCnt s).trans (advance_eq_mod gateBelow),
    (tickSlots_pulseCnt s).trans (advance_eq_mod pulseBelow),
    fun fwd rev => ?spoolDeadlocked, fun fwd rev => ?guideDeadlocked⟩
  case spoolDeadlocked =>
    obtain ⟨sameFwd, sameRev⟩ := Axis.mk.inj (tickSlots_spoolAxis_of_deadlock fwd rev)
    exact ⟨sameFwd, sameRev, guideUpdated⟩
  case guideDeadlocked =>
    obtain ⟨sameFwd, sameRev⟩ := Axis.mk.inj (tickSlots_guideAxis_of_deadlock fwd rev)
    exact ⟨sameFwd, sameRev, spoolUpdated⟩

end Sys2Proof.Machine
end

section
/-! PROOF. The ramp and the axis: how often NEXTLEVEL is called until a held target is reached (R46), the bounds on its
result, and what UPDATEAXIS keeps of a pair (R48, R49). -/

namespace Sys2Proof.Machine

/-! ### NEXTLEVEL: bounds and fixed points -/

theorem nextLevel_le_target (current target maxStep : Level) :
    (nextLevel current target maxStep).toNat ≤ target.toNat := by
  rw [nextLevel_toNat]
  split
  · exact le_rfl
  · exact min_le_left _ _

/-- R90: the step bound bounds the rise. -/
theorem nextLevel_le_add (current target maxStep : Level) :
    (nextLevel current target maxStep).toNat ≤ current.toNat + maxStep.toNat := by
  rw [nextLevel_toNat]
  split
  · omega
  · exact min_le_right _ _

/-- A target that is not above the level is reached in one call, whatever the step bound. -/
theorem nextLevel_of_le {current target : Level} (h : target.toNat ≤ current.toNat) (maxStep : Level) :
    nextLevel current target maxStep = target :=
  BitVec.eq_of_toNat_eq (by rw [nextLevel_toNat, if_pos h])

/-- From a level not above the target, the rise by the step bound is cut off at the target. -/
theorem nextLevel_toNat_of_le {current target : Level} (h : current.toNat ≤ target.toNat) (maxStep : Level) :
    (nextLevel current target maxStep).toNat = min target.toNat (current.toNat + maxStep.toNat) := by
  rw [nextLevel_toNat]
  split <;> omega

/-- With a step bound of 0 an upward move never starts (conflict C1). -/
theorem nextLevel_of_step_zero {current target maxStep : Level} (still : maxStep.toNat = 0)
    (h : current.toNat ≤ target.toNat) : nextLevel current target maxStep = current :=
  BitVec.eq_of_toNat_eq (by rw [nextLevel_toNat_of_le h, still, Nat.add_zero, Nat.min_eq_right h])

/-! ### NEXTLEVEL called again and again -/

/-- After k calls upward the level has risen k times, cut off at the target. -/
theorem nextLevel_iterate_toNat {current target : Level} (h : current.toNat ≤ target.toNat) (maxStep : Level)
    (k : Nat) : ((fun v => nextLevel v target maxStep)^[k] current).toNat =
      min target.toNat (current.toNat + k * maxStep.toNat) := by
  induction k with
  | zero => simp [h]
  | succ k ih =>
    have below : ((fun v => nextLevel v target maxStep)^[k] current).toNat ≤ target.toNat :=
      ih ▸ Nat.min_le_left _ _
    rw [Function.iterate_succ_apply', nextLevel_toNat_of_le below, ih, Nat.succ_mul]
    omega

/-- `ceilDiv` is Mathlib's ceiling division, with its adjunction to the product. -/
theorem ceilDiv_le_iff {a b k : Nat} (h : 1 ≤ b) : ceilDiv a b ≤ k ↔ a ≤ k * b := by
  rw [ceilDiv, ← Nat.ceilDiv_eq_add_pred_div, ceilDiv_le_iff_le_mul h, Nat.mul_comm]

/-- R46, upward: a held target is reached after exactly `ceil((target − current) / maxStep)` calls. -/
theorem nextLevel_iterate_eq_target_iff {current target maxStep : Level} (moves : 1 ≤ maxStep.toNat)
    (h : current.toNat ≤ target.toNat) (k : Nat) :
    (fun v => nextLevel v target maxStep)^[k] current = target ↔
      ceilDiv (target.toNat - current.toNat) maxStep.toNat ≤ k := by
  rw [BitVec.toNat_eq, nextLevel_iterate_toNat h, ceilDiv_le_iff moves, min_eq_left_iff]
  omega

/-- R46, downward: the first call reaches the target, and later calls hold it. -/
theorem nextLevel_iterate_of_le {current target : Level} (h : target.toNat ≤ current.toNat) (maxStep : Level)
    {k : Nat} (called : 1 ≤ k) : (fun v => nextLevel v target maxStep)^[k] current = target := by
  obtain ⟨k, rfl⟩ := Nat.exists_eq_add_of_le' called
  rw [Function.iterate_succ_apply, nextLevel_of_le h]
  have held : (fun v => nextLevel v target maxStep) target = target := nextLevel_of_le le_rfl maxStep
  exact Function.iterate_fixed held k

/-- R46: with a step bound of 0 an upward target is never approached. -/
theorem nextLevel_iterate_of_step_zero {current target maxStep : Level} (still : maxStep.toNat = 0)
    (h : current.toNat ≤ target.toNat) (k : Nat) : (fun v => nextLevel v target maxStep)^[k] current = current := by
  have held : (fun v => nextLevel v target maxStep) current = current := nextLevel_of_step_zero still h
  exact Function.iterate_fixed held k

/-- Settles O26: the closed form, and its iterates upward, downward and with a step bound of 0. -/
theorem rampClosedFormAndCallCount : Obligations.RampClosedFormAndCallCount :=
  fun current target maxStep =>
    ⟨nextLevel_toNat current target maxStep,
      nextLevel_iterate_eq_target_iff,
      fun fall _ called => nextLevel_iterate_of_le fall.le maxStep called,
      fun still rise k => nextLevel_iterate_of_step_zero still rise.le k⟩

/-! ### UPDATEAXIS -/

theorem axis_eq_mk {a : Axis} {f r : Level} (fwd : a.fwd = f) (rev : a.rev = r) : a = ⟨f, r⟩ :=
  fwd ▸ rev ▸ rfl

section updateAxis
variable {a : Axis}

/-- A driven forward direction holds the reverse level (R48). -/
theorem updateAxis_rev_of_fwd_ne_zero (h : a.fwd ≠ 0) (fwdTarget revTarget maxAcc : Level) :
    (updateAxis a fwdTarget revTarget maxAcc).rev = a.rev := if_neg h

/-- A driven reverse direction holds the forward level (R48). -/
theorem updateAxis_fwd_of_rev_ne_zero (h : a.rev ≠ 0) (fwdTarget revTarget maxAcc : Level) :
    (updateAxis a fwdTarget revTarget maxAcc).fwd = a.fwd := if_neg h

/-- The pair both of whose directions may start (R48). -/
theorem updateAxis_idle (fwdTarget revTarget maxAcc : Level) :
    updateAxis ⟨0, 0⟩ fwdTarget revTarget maxAcc =
      ⟨nextLevel 0 fwdTarget maxAcc, nextLevel 0 revTarget maxAcc⟩ := rfl

theorem updateAxis_of_rev_zero (h : a.rev = 0) (target maxAcc : Level) :
    updateAxis a target revTarget maxAcc = ⟨nextLevel a.fwd target maxAcc, 0⟩ := by
  rw [axis_eq_mk (a := a) rfl h]
  exact updateAxis_forward a.fwd target maxAcc

/-- R49: a direction that is driven holds the other at zero; from the idle pair, the proviso keeps one of the two
ramps from starting. -/
theorem updateAxis_legal (legal : Legal a) {fwdTarget revTarget maxAcc : Level}
    (proviso : a = ⟨0, 0⟩ → 1 ≤ maxAcc.toNat → fwdTarget = 0 ∨ revTarget = 0) :
    Legal (updateAxis a fwdTarget revTarget maxAcc) := by
  by_cases fwd : a.fwd = 0
  case neg =>
    have rev : a.rev = 0 := legal.resolve_left fwd
    exact .inr ((updateAxis_rev_of_fwd_ne_zero fwd _ _ _).trans rev)
  by_cases rev : a.rev = 0
  case neg => exact .inl ((updateAxis_fwd_of_rev_ne_zero rev _ _ _).trans fwd)
  obtain rfl : a = ⟨0, 0⟩ := axis_eq_mk fwd rev
  rw [updateAxis_idle]
  rcases Nat.eq_zero_or_pos maxAcc.toNat with still | moves
  · exact .inl (nextLevel_of_step_zero still (Nat.zero_le _))
  · rcases proviso rfl moves with rfl | rfl
    · exact .inl (nextLevel_zero 0 maxAcc)
    · exact .inr (nextLevel_zero 0 maxAcc)

end updateAxis

/-- Settles O27: UPDATEAXIS answers on every state, and its pair is legal under the proviso. -/
theorem legalPairStaysLegalUnderTheProviso : Obligations.LegalPairStaysLegalUnderTheProviso :=
  fun _ _ _ _ _ legal proviso => ⟨_, exec_updateAxis_eq_next.2 rfl, updateAxis_legal legal proviso⟩

/-- Refutes O28: from the idle pair, two nonzero targets start both ramps (vector T-AX-7). -/
theorem not_legalPairStaysLegalWithoutTheProviso : ¬ Obligations.LegalPairStaysLegalWithoutTheProviso := by
  intro unconditional
  have bothDriven : ¬ Legal (updateAxis ⟨0, 0⟩ 0x40 0x40 0x10) := by decide
  exact bothDriven (unconditional ⟨0, 0⟩ 0x40 0x40 0x10 (.inl rfl))

/-- Settles O29: each call of the list returns the deadlocked pair it was given. -/
theorem deadlockedAxisIsHeldForEver : Obligations.DeadlockedAxisIsHeldForEver := by
  intro a calls fwd rev
  induction calls with
  | nil => rfl
  | cons c calls ih => rw [List.foldl_cons, updateAxis_deadlock fwd rev, ih]

/-- Settles O30: the driven direction drops to zero at once and holds the other, which starts from the idle pair. -/
theorem reversalCostsOneIdleCall : Obligations.ReversalCostsOneIdleCall := by
  intro f rt maxAcc driven
  have idle : updateAxis ⟨f, 0⟩ 0 rt maxAcc = ⟨0, 0⟩ :=
    axis_eq_mk (nextLevel_zero f maxAcc) (updateAxis_rev_of_fwd_ne_zero (a := ⟨f, 0⟩) driven 0 rt maxAcc)
  refine ⟨idle, ?_⟩
  rw [idle, updateAxis_idle]
  exact congrArg (Axis.mk · _) (nextLevel_zero 0 maxAcc)

end Sys2Proof.Machine
end

section
/-! PROOF. What one step can do to each register, said once (`exec_registerSteps`), and from it what every step keeps:
the invariant I1 to I6 (R26), the single direction (R49) and the bound on the rise of a level (R90). -/

namespace Sys2Proof.Machine

/-! ### The two motors' operations in numbers -/

/-- A motor with its reverse level at zero, driven or released: a bounded rise, or 0 at once (R60, R61). -/
theorem nextLevel_driven_toNat {current speed : Level} (driven : Bool) (acc : Level)
    (below : current.toNat ≤ speed.toNat) :
    (nextLevel current (if driven then speed else 0) acc).toNat =
      if driven then min speed.toNat (current.toNat + acc.toNat) else 0 := by
  cases driven with
  | true => exact nextLevel_toNat_of_le below acc
  | false => exact congrArg BitVec.toNat (nextLevel_zero current acc)

/-- Settles O33: UPD.SPOOL's pair is UPDATEAXIS on a pair without reverse level. -/
theorem spoolRisesBoundedAndDropsAtOnce : Obligations.SpoolRisesBoundedAndDropsAtOnce := by
  intro s enabled valid rev below
  have pair := updateAxis_of_rev_zero (a := s.spoolAxis) rev (spoolTarget s.cfg enabled) s.cfg.spoolAcc
  refine ⟨_, exec_updSpool_eq_next.2 ⟨valid, rfl⟩, congrArg Axis.rev pair, ?_⟩
  exact (congrArg (·.fwd.toNat) pair).trans (nextLevel_driven_toNat enabled s.cfg.spoolAcc below)

/-- Settles O34: UPD.GUIDE's pair is UPDATEAXIS on a pair without reverse level. -/
theorem guideRisesOnlyWhenEnabledAndPulsing : Obligations.GuideRisesOnlyWhenEnabledAndPulsing := by
  intro s enabled pulseActive valid rev below
  have pair := updateAxis_of_rev_zero (a := s.guideAxis) rev (guideTarget s.cfg enabled pulseActive) s.cfg.guideAcc
  refine ⟨_, exec_updGuide_eq_next.2 ⟨valid, rfl⟩, congrArg Axis.rev pair, ?_⟩
  exact (congrArg (·.fwd.toNat) pair).trans (nextLevel_driven_toNat (enabled && pulseActive) s.cfg.guideAcc below)

/-! ### What one operation can do to a counter and to a pair -/

/-- All that an operation can do to a counter `c`: keep it, clear it, or advance it below its period. -/
inductive CounterStep (period c : Nat) : Nat → Prop where
  | kept : CounterStep period c c
  | cleared : CounterStep period c 0
  | advanced (below : c < period) : CounterStep period c (advance c period)

/-- All that an operation can do to a motor's pair `a`: keep it, clear it, or ramp it forward towards a target that
its speed bounds, with the reverse target 0. -/
inductive AxisStep (speed acc : Level) (a : Axis) : Axis → Prop where
  | kept : AxisStep speed acc a a
  | cleared : AxisStep speed acc a ⟨0, 0⟩
  | ramped (target : Level) (bounded : target.toNat ≤ speed.toNat) :
      AxisStep speed acc a (updateAxis a target revTarget acc)

theorem CounterStep.lt {period c c' : Nat} (h : CounterStep period c c') (below : c < period) : c' < period := by
  cases h with
  | kept => exact below
  | cleared => exact Nat.zero_lt_of_lt below
  | advanced => exact advance_lt below

section AxisStep
variable {speed acc : Level} {a b : Axis} (h : AxisStep speed acc a b)
include h

theorem AxisStep.rev_zero (rev : a.rev = 0) : b.rev = 0 := by
  cases h with
  | kept => exact rev
  | cleared => rfl
  | ramped target => rw [updateAxis_of_rev_zero rev]

theorem AxisStep.fwd_le_speed (rev : a.rev = 0) (below : a.fwd.toNat ≤ speed.toNat) :
    b.fwd.toNat ≤ speed.toNat := by
  cases h with
  | kept => exact below
  | cleared => exact Nat.zero_le _
  | ramped target bounded =>
    rw [updateAxis_of_rev_zero rev]
    exact (nextLevel_le_target _ _ _).trans bounded

/-- The reverse target 0 meets the proviso of R49. -/
theorem AxisStep.legal (legal : Legal a) : Legal b := by
  cases h with
  | kept => exact legal
  | cleared => exact .inl rfl
  | ramped target => exact updateAxis_legal legal fun _ _ => .inr rfl

theorem AxisStep.fwd_le_add : b.fwd.toNat ≤ a.fwd.toNat + acc.toNat := by
  cases h with
  | kept => exact Nat.le_add_right _ _
  | cleared => exact Nat.zero_le _
  | ramped target =>
    by_cases rev : a.rev = 0
    · rw [updateAxis_of_rev_zero rev]
      exact nextLevel_le_add _ _ _
    · rw [updateAxis_fwd_of_rev_ne_zero rev]
      exact Nat.le_add_right _ _

theorem AxisStep.rev_le : b.rev.toNat ≤ a.rev.toNat := by
  cases h with
  | kept => exact le_rfl
  | cleared => exact Nat.zero_le _
  | ramped target =>
    by_cases fwd : a.fwd = 0
    · have fallen : (updateAxis a target revTarget acc).rev = 0 := (if_pos fwd).trans (nextLevel_zero a.rev acc)
      exact fallen ▸ Nat.zero_le _
    · rw [updateAxis_rev_of_fwd_ne_zero fwd]

end AxisStep

/-! ### What one operation, and one step, can do to the registers -/

/-- All that an operation can do to `cfg`, to each counter and to each pair (`lit`, which no clause of R26's I1 to I6
reads, is left out). -/
structure RegisterSteps (s t : State) : Prop where
  cfg : t.cfg = s.cfg
  ind : CounterStep s.cfg.halfPeriod s.indCnt t.indCnt
  gate : CounterStep s.cfg.enablePeriod s.gateCnt t.gateCnt
  pulse : CounterStep s.cfg.guidePeriod s.pulseCnt t.pulseCnt
  spool : AxisStep s.cfg.spoolSpeed s.cfg.spoolAcc s.spoolAxis t.spoolAxis
  guide : AxisStep s.cfg.guideSpeed s.cfg.guideAcc s.guideAxis t.guideAxis

theorem spoolTarget_le_speed (c : Cfg) (enabled : Bool) :
    (spoolTarget c enabled).toNat ≤ c.spoolSpeed.toNat := by
  cases enabled with
  | true => exact le_rfl
  | false => exact Nat.zero_le _

theorem guideTarget_le_speed (c : Cfg) (enabled pulseActive : Bool) :
    (guideTarget c enabled pulseActive).toNat ≤ c.guideSpeed.toNat := by
  rw [guideTarget]
  split
  · exact le_rfl
  · exact Nat.zero_le _

/-- An operation that only returns a value keeps every register. -/
theorem answer_registerSteps (s : State) (r : Ret) : RegisterSteps s (s.answer r) :=
  ⟨rfl, .kept, .kept, .kept, .kept, .kept⟩

/-- The inversion of `exec`: whatever operation answers, each register is kept, cleared, advanced or ramped. -/
theorem exec_registerSteps {i : Instr} {s t : State} (h : exec i s = .next t) : RegisterSteps s t := by
  cases i with
  | hold =>
    obtain rfl := exec_hold_eq_next.1 h
    exact answer_registerSteps s _
  | reset =>
    obtain rfl := exec_reset_eq_next.1 h
    exact ⟨rfl, .cleared, .cleared, .cleared, .cleared, .cleared⟩
  | tick =>
    obtain ⟨-, ⟨ind, gate, pulse⟩, rfl⟩ := exec_tick_eq_next.1 h
    exact ⟨tickSlots_cfg s, .advanced ind, .advanced gate, .advanced pulse,
      .ramped _ (spoolTarget_le_speed _ _), .ramped _ (guideTarget_le_speed _ _ _)⟩
  | indTick =>
    obtain ⟨-, below, rfl⟩ := exec_indTick_eq_next.1 h
    exact ⟨rfl, .advanced below, .kept, .kept, .kept, .kept⟩
  | gateTick =>
    obtain ⟨-, below, rfl⟩ := exec_gateTick_eq_next.1 h
    exact ⟨rfl, .kept, .advanced below, .kept, .kept, .kept⟩
  | pulseTick =>
    obtain ⟨-, below, rfl⟩ := exec_pulseTick_eq_next.1 h
    exact ⟨rfl, .kept, .kept, .advanced below, .kept, .kept⟩
  | updSpool enabled =>
    obtain ⟨-, rfl⟩ := exec_updSpool_eq_next.1 h
    exact ⟨rfl, .kept, .kept, .kept, .ramped _ (spoolTarget_le_speed _ _), .kept⟩
  | updGuide enabled pulseActive =>
    obtain ⟨-, rfl⟩ := exec_updGuide_eq_next.1 h
    exact ⟨rfl, .kept, .kept, .kept, .kept, .ramped _ (guideTarget_le_speed _ _ _)⟩
  | nextLevel current target maxStep =>
    obtain rfl := exec_nextLevel_eq_next.1 h
    exact answer_registerSteps s _
  | updateAxis axis fwdTarget revTarget maxAcc =>
    obtain rfl := exec_updateAxis_eq_next.1 h
    exact answer_registerSteps s _
  | dccTick c on off =>
    obtain ⟨-, rfl⟩ := exec_dccTick_eq_next.1 h
    exact answer_registerSteps s _

/-- Taking a request writes the model's own `script` and `hostIx` alone, and only shortens the script. -/
theorem takeRequest_state (s : State) :
    ∃ rest n, rest <:+ s.script ∧ s.takeRequest.2 = { s with script := rest, hostIx := n } := by
  cases h : s.script with
  | nil => exact ⟨_, _, List.nil_suffix, by rw [takeRequest_nil h, ← h]⟩
  | cons r rest => exact ⟨rest, _, List.suffix_cons r rest, by rw [takeRequest_cons h]⟩

theorem takeRequest_sameCore (s : State) : SameCore s s.takeRequest.2 := by
  obtain ⟨rest, n, -, same⟩ := takeRequest_state s
  rw [same]
  exact ⟨rfl, rfl, rfl, rfl, rfl, rfl, rfl, rfl, rfl⟩

/-- The inversion of `step`: that of the operation it ran, on a state with the same registers. -/
theorem step_registerSteps {s t : State} (h : step s = .next t) : RegisterSteps s t := by
  obtain ⟨-, i, -, ran⟩ := step_eq_next h
  obtain ⟨rest, n, -, same⟩ := takeRequest_state s
  rw [same] at ran
  obtain ⟨cfg, ind, gate, pulse, spool, guide⟩ := exec_registerSteps ran
  exact ⟨cfg, ind, gate, pulse, spool, guide⟩

/-! ### What every step keeps -/

theorem RegisterSteps.countersInRange {s t : State} (h : RegisterSteps s t) (inRange : CountersInRange s) :
    CountersInRange t := by
  obtain ⟨ind, gate, pulse⟩ := inRange
  rw [CountersInRange, h.cfg]
  exact ⟨h.ind.lt ind, h.gate.lt gate, h.pulse.lt pulse⟩

/-- R26: I1 to I3 by the counters' periods, I4 to I6 by the pairs' targets. -/
theorem RegisterSteps.inv {s t : State} (h : RegisterSteps s t) (inv : Inv s) : Inv t := by
  obtain ⟨valid, inRange, ⟨spoolRev, guideRev⟩, ⟨spoolBelow, guideBelow⟩, ⟨spoolLegal, guideLegal⟩⟩ := inv
  refine ⟨h.cfg ▸ valid, h.countersInRange inRange, ⟨h.spool.rev_zero spoolRev, h.guide.rev_zero guideRev⟩,
    ?belowSpeed, ⟨h.spool.legal spoolLegal, h.guide.legal guideLegal⟩⟩
  rw [h.cfg]
  exact ⟨h.spool.fwd_le_speed spoolRev spoolBelow, h.guide.fwd_le_speed guideRev guideBelow⟩

/-- Settles O48: the step keeps, clears, advances or ramps each register, and none of the four leaves I1 to I6. -/
theorem everyStepKeepsTheReachabilityInvariant : Obligations.EveryStepKeepsTheReachabilityInvariant :=
  fun _ _ inv h => (step_registerSteps h).inv inv

/-- Settles O49: whatever a step does to a pair keeps it legal, with no premise on the levels. -/
theorem noStepBreaksTheSingleDirectionInvariant : Obligations.NoStepBreaksTheSingleDirectionInvariant :=
  fun _ _ spool guide h => ⟨(step_registerSteps h).spool.legal spool, (step_registerSteps h).guide.legal guide⟩

/-- Settles O35: whatever a step does to a pair raises its forward level by the acceleration at most. -/
theorem noStepRaisesALevelByMoreThanItsAcceleration : Obligations.NoStepRaisesALevelByMoreThanItsAcceleration := by
  intro s t h
  obtain ⟨-, -, -, -, spool, guide⟩ := step_registerSteps h
  exact ⟨spool.fwd_le_add, guide.fwd_le_add, spool.rev_le, guide.rev_le⟩

/-- Settles O47: V1 to V3 make the periods positive, and every other clause compares zero. -/
theorem resetMeetsTheReachabilityInvariant : Obligations.ResetMeetsTheReachabilityInvariant := by
  intro c valid
  obtain ⟨⟨half, -⟩, ⟨enable, -⟩, ⟨guide, -⟩, -⟩ := id valid
  exact ⟨valid, ⟨half, enable, guide⟩, ⟨rfl, rfl⟩, ⟨Nat.zero_le _, Nat.zero_le _⟩, ⟨.inl rfl, .inl rfl⟩⟩

/-- Settles O46: a counter below its period advances to the period at most, which V1 to V3 bound. -/
theorem countersFitTheirWidth : Obligations.CountersFitTheirWidth := by
  intro s inv
  obtain ⟨⟨-, half⟩, ⟨-, enable⟩, ⟨-, guide⟩, -⟩ := inv.valid
  obtain ⟨ind, gate, pulse⟩ := inv.counters
  exact ⟨Nat.le_trans ind half, Nat.le_trans gate enable, Nat.le_trans pulse guide⟩

end Sys2Proof.Machine
end

section
/-! PROOF. The encoding (spec/30_encoding.md): the decoder on every encoded operation, the requests that decode to a
given operation, and what the lines of a script stand for. -/

namespace Sys2Proof.Machine

/-! ### The decoder against the encoder -/

/-- HOLD, TICK and RESET are all that a control word can select (R42). -/
theorem decodeCtl_cases (w : Ctl) : decodeCtl w = .hold ∨ decodeCtl w = .tick ∨ decodeCtl w = .reset := by
  revert w
  decide

/-- Only the word 11 is not the encoding of what it decodes to (R42, R75). -/
theorem ctl_eq_encode_decodeCtl (w : Ctl) :
    Request.ctl w = encode (decodeCtl w) ∨ (decodeCtl w = .reset ∧ Request.ctl w = .ctl 0b11) := by
  revert w
  decide

/-- The slot labels that select an operation, and the operation each selects. -/
theorem decode_seq_eq_ok {w : SlotBits} {e p : Bool} {i : Instr} :
    decode (.seq w e p) = .ok i ↔ ∃ slot : Slot, w = slot.label ∧ i = slot.operation e p := by
  simp only [decode]
  cases h : decodeSlot w with
  | none => simp [← decodeSlot_eq_some, h]
  | some slot => simp [← decodeSlot_eq_some, h, eq_comm]

theorem decode_encode (i : Instr) : decode (encode i) = .ok i := by
  cases i <;> rfl

/-- Settles O3: each operation's encoding is a closed bit pattern beside its operands. -/
theorem decodeGivesBackEveryEncodedOperation : Obligations.DecodeGivesBackEveryEncodedOperation := decode_encode

/-- Settles O4: a control word by the four words, a slot request by its slot, and a function unit by its operands. -/
theorem everySpellingOfAnOperation : Obligations.EverySpellingOfAnOperation := by
  refine fun r i => ⟨fun h => ?listed, ?decodes⟩
  case listed =>
    cases r with
    | ctl w =>
      obtain rfl := Except.ok.inj h
      rcases ctl_eq_encode_decodeCtl w with canonical | second
      · exact .inl canonical
      · exact .inr (.inl second)
    | seq w e p =>
      obtain ⟨slot, rfl, rfl⟩ := decode_seq_eq_ok.1 h
      cases slot with
      | ind => exact .inr (.inr (.inl ⟨e, p, rfl, rfl⟩))
      | gate => exact .inr (.inr (.inr (.inl ⟨e, p, rfl, rfl⟩)))
      | spool => exact .inr (.inr (.inr (.inr (.inl ⟨e, p, rfl, rfl⟩))))
      | pulse => exact .inr (.inr (.inr (.inr (.inr ⟨e, p, rfl, rfl⟩))))
      | guide => exact .inl rfl
    | nextLevel | updateAxis | dccTick =>
      obtain rfl := Except.ok.inj h
      exact .inl rfl
  case decodes =>
    rintro (rfl | ⟨rfl, rfl⟩ | ⟨e, p, rfl, rfl⟩ | ⟨e, p, rfl, rfl⟩ | ⟨e, p, rfl, rfl⟩ | ⟨e, p, rfl, rfl⟩)
    · exact decode_encode i
    all_goals rfl

/-! ### Scripts -/

@[simp] theorem expandScript_single (op : ScriptOp) (n : Nat) :
    expandScript [(op, n)] = List.replicate n op.word := List.append_nil _

theorem expandScript_append (a b : List ScriptLine) :
    expandScript (a ++ b) = expandScript a ++ expandScript b := by
  induction a with
  | nil => rfl
  | cons line a ih =>
    obtain ⟨op, n⟩ := line
    simp only [List.cons_append, expandScript, ih, List.append_assoc]

/-- Settles O5: one line and two scripts by the lemmas above, and the digits by evaluation. -/
theorem scriptDigitsAndRepeatCounts : Obligations.ScriptDigitsAndRepeatCounts :=
  ⟨expandScript_single, expandScript_append, rfl, rfl, rfl, rfl, rfl, rfl, rfl⟩

end Sys2Proof.Machine
end

section
/-! PROOF. The step: the operation it runs, the refusals the spec orders, and that nothing else stops it (R67, R71,
R72). -/

namespace Sys2Proof.Machine

/-! ### The operation a step runs -/

section step
variable {s : State}

theorem step_of_decode_ok {i : Instr} (valid : CfgValid s.cfg) (h : decode s.takeRequest.1 = .ok i) :
    step s = exec i s.takeRequest.2 := by
  rw [step, whenConfigured_of_valid valid]
  simp only [h]

theorem step_of_decode_error {e : Reject} (valid : CfgValid s.cfg) (h : decode s.takeRequest.1 = .error e) :
    step s = .refused (refusalOf e) := by
  rw [step, whenConfigured_of_valid valid]
  simp only [h]

end step

/-- Settles O6: the placed request is the one taken. -/
theorem stepRunsThePlacedRequest : Obligations.StepRunsThePlacedRequest :=
  fun _ _ _ _ valid placed decoded => step_of_script_cons valid placed decoded

/-- Settles O7: with an empty list the request taken is the host's word, which always decodes. -/
theorem stepRunsTheHostsOwnWord : Obligations.StepRunsTheHostsOwnWord := by
  intro s valid empty
  have taken := takeRequest_nil empty
  have decoded : decode s.takeRequest.1 = .ok (decodeCtl (Config.hostCtl s.hostIx)) := by
    rw [taken]
    rfl
  rw [step_of_decode_ok valid decoded, taken]

/-- R43: the labels from 5 on name no slot. -/
theorem decodeSlot_eq_none {w : SlotBits} (h : 5 ≤ w.toNat) : decodeSlot w = none := by
  revert w
  decide

/-- Settles O2: the decoder rejects the label, and the step refuses under the same name. -/
theorem unassignedSlotLabelsAreRefused : Obligations.UnassignedSlotLabelsAreRefused := by
  intro s w e p rest valid unassigned placed
  have rejected : decode s.takeRequest.1 = .error (.unassignedSlot w) := by
    simp only [takeRequest_cons placed, decode, decodeSlot_eq_none unassigned]
  exact step_of_decode_error valid rejected

/-! ### The refusals -/

theorem whenConfigured_of_invalid {s : State} (h : ¬ CfgValid s.cfg) (go : Host.Outcome State Fault Refusal) :
    whenConfigured s go = .refused .invalidConfig := if_neg h

theorem whenInPeriod_of_ge {k : Counter} {s : State} (h : periodOf s.cfg k ≤ s.counter k)
    (go : Host.Outcome State Fault Refusal) : whenInPeriod k s go = .refused (.counterOutOfRange k) :=
  if_neg fun below => Nat.not_lt.2 h (of_decide_eq_true below)

/-- TICK and its slots are the operations behind the configuration check (R72; log 8). -/
theorem exec_eq_whenConfigured {i : Instr} (h : i = .tick ∨ i.format = .seq) (s : State) :
    ∃ go, exec i s = whenConfigured s go := by
  cases i with
  | tick | indTick | gateTick | updSpool | pulseTick | updGuide => exact ⟨_, rfl⟩
  | hold | reset | nextLevel | updateAxis | dccTick => simp [Instr.format] at h

/-- Settles O8: the step and the operations that read `cfg` are behind the configuration check. -/
theorem invalidConfigurationIsRefused : Obligations.InvalidConfigurationIsRefused := by
  refine fun s invalid => ⟨whenConfigured_of_invalid invalid _, fun i reads => ?_⟩
  obtain ⟨go, checked⟩ := exec_eq_whenConfigured reads s
  exact checked.trans (whenConfigured_of_invalid invalid go)

/-- Settles O20: the domain of R52 is the check DCC.TICK makes. -/
theorem dccTickOutsideItsDomainIsRefused : Obligations.DccTickOutsideItsDomainIsRefused :=
  fun _ _ _ _ outside => if_neg (mt dccTick_wellFormed_iff.1 outside)

/-- On a valid configuration TICK checks the three periods in the order of its slots (log 9). -/
theorem exec_tick_of_valid {s : State} (valid : CfgValid s.cfg) :
    exec .tick s =
      whenInPeriod .ind s (whenInPeriod .gate s (whenInPeriod .pulse s (.next (tickSlots s)))) :=
  whenConfigured_of_valid valid _

/-- Settles O21: each counter's operation checks it alone, and TICK reaches a check once the checks before it pass. -/
theorem counterAboveItsPeriodIsRefused : Obligations.CounterAboveItsPeriodIsRefused := by
  intro s valid
  have configured := whenConfigured_of_valid valid
  have tick := exec_tick_of_valid valid
  refine ⟨fun ind => ⟨?_, ?_⟩, fun gate => ⟨?_, fun ind => ?_⟩, fun pulse => ⟨?_, fun ind gate => ?_⟩⟩
  · exact (configured _).trans (whenInPeriod_of_ge (k := .ind) ind _)
  · rw [tick, whenInPeriod_of_ge (k := .ind) ind]
  · exact (configured _).trans (whenInPeriod_of_ge (k := .gate) gate _)
  · rw [tick, whenInPeriod_of_lt (k := .ind) ind, whenInPeriod_of_ge (k := .gate) gate]
  · exact (configured _).trans (whenInPeriod_of_ge (k := .pulse) pulse _)
  · rw [tick, whenInPeriod_of_lt (k := .ind) ind, whenInPeriod_of_lt (k := .gate) gate,
      whenInPeriod_of_ge (k := .pulse) pulse]

/-! ### There is no other ground on which an operation stops -/

/-- An outcome of the operation `i` on `s` that is a refusal on one of the three grounds, with the ground holding. -/
def GroundedRefusal (i : Instr) (s : State) (o : Host.Outcome State Fault Refusal) : Prop :=
  (o = .refused .invalidConfig ∧ ¬ CfgValid s.cfg) ∨
  (∃ k, o = .refused (.counterOutOfRange k) ∧ periodOf s.cfg k ≤ s.counter k) ∨
  (o = .refused .dutyOperandsOutOfRange ∧ i.wellFormed s.cfg.cw = false)

/-- The outcome is a next state or a refusal on one of the three grounds. -/
def AnswersOrGrounded (i : Instr) (s : State) (o : Host.Outcome State Fault Refusal) : Prop :=
  (∃ t, o = .next t) ∨ GroundedRefusal i s o

section grounds
variable {i : Instr} {s : State}

theorem answersOrGrounded_next (t : State) : AnswersOrGrounded i s (.next t) := .inl ⟨t, rfl⟩

theorem AnswersOrGrounded.whenConfigured {go : Host.Outcome State Fault Refusal} (h : AnswersOrGrounded i s go) :
    AnswersOrGrounded i s (whenConfigured s go) := by
  rcases whenConfigured_cases s go with ⟨-, runs⟩ | ⟨invalid, refused⟩
  · rw [runs]
    exact h
  · exact .inr (.inl ⟨refused, invalid⟩)

theorem AnswersOrGrounded.whenInPeriod {go : Host.Outcome State Fault Refusal} (h : AnswersOrGrounded i s go)
    (k : Counter) : AnswersOrGrounded i s (whenInPeriod k s go) := by
  rcases whenInPeriod_cases k s go with ⟨-, runs⟩ | ⟨above, refused⟩
  · rw [runs]
    exact h
  · exact .inr (.inr (.inl ⟨k, refused, above⟩))

/-- R71: every arm of the dispatch is a next state behind the checks it makes. -/
theorem exec_answersOrGrounded (i : Instr) (s : State) : AnswersOrGrounded i s (exec i s) := by
  cases i with
  | hold | reset | nextLevel | updateAxis => exact answersOrGrounded_next _
  | tick =>
    exact ((((answersOrGrounded_next _).whenInPeriod .pulse).whenInPeriod .gate).whenInPeriod .ind).whenConfigured
  | indTick => exact ((answersOrGrounded_next _).whenInPeriod .ind).whenConfigured
  | gateTick => exact ((answersOrGrounded_next _).whenInPeriod .gate).whenConfigured
  | pulseTick => exact ((answersOrGrounded_next _).whenInPeriod .pulse).whenConfigured
  | updSpool | updGuide => exact (answersOrGrounded_next _).whenConfigured
  | dccTick c on off =>
    cases domain : (Instr.dccTick c on off).wellFormed s.cfg.cw with
    | true => exact .inl ⟨_, if_pos domain⟩
    | false => exact .inr (.inr (.inr ⟨if_neg (Bool.not_eq_true _ ▸ domain), domain⟩))

theorem CountersInRange.lt_periodOf (inRange : CountersInRange s) (k : Counter) :
    s.counter k < periodOf s.cfg k := by
  obtain ⟨ind, gate, pulse⟩ := inRange
  cases k with
  | ind => exact ind
  | gate => exact gate
  | pulse => exact pulse

/-- Under the premises of the rules none of the three grounds holds, so the operation completes. -/
theorem exec_completes (valid : CfgValid s.cfg) (inRange : CountersInRange s)
    (domain : i.wellFormed s.cfg.cw = true) : ∃ t, exec i s = .next t := by
  rcases exec_answersOrGrounded i s with completes | ⟨-, invalid⟩ | ⟨k, -, above⟩ | ⟨-, outside⟩
  · exact completes
  · exact absurd valid invalid
  · exact absurd (inRange.lt_periodOf k) (Nat.not_lt.2 above)
  · exact absurd domain (outside ▸ Bool.false_ne_true)

/-- The registers and `cfg` stand as they were when the step runs the operation of the request it took. -/
theorem step_completes (valid : CfgValid s.cfg) (inRange : CountersInRange s)
    (decoded : decode s.takeRequest.1 = .ok i) (domain : i.wellFormed s.cfg.cw = true) :
    ∃ t, step s = .next t := by
  obtain ⟨rest, n, -, same⟩ := takeRequest_state s
  rw [step_of_decode_ok valid decoded, same]
  exact exec_completes valid inRange domain

end grounds

/-- Settles O9: an operation answers or is refused on a ground that holds, and its premises exclude the grounds. -/
theorem noOperationCanFail : Obligations.NoOperationCanFail :=
  ⟨fun _ _ => exec_completes, fun _ _ => step_completes,
    fun i s stops => (exec_answersOrGrounded i s).resolve_left fun ⟨t, answers⟩ => stops t answers⟩

/-! ### The core, in which only control words are placed -/

/-- In the core a step takes a control word, placed or chosen. -/
theorem CoreOnly.takeRequest_eq_ctl {s : State} (h : CoreOnly s) : ∃ w, s.takeRequest.1 = .ctl w := by
  cases placed : s.script with
  | nil => exact ⟨_, by rw [takeRequest_nil placed]⟩
  | cons r rest =>
    rw [takeRequest_cons placed]
    have isCtl := h r (placed ▸ List.mem_cons_self)
    cases r with
    | ctl w => exact ⟨w, rfl⟩
    | seq | nextLevel | updateAxis | dccTick => simp [Request.format] at isCtl

/-- HOLD, TICK and RESET have no operands. -/
theorem decodeCtl_wellFormed (w : Ctl) (cw : Nat) : (decodeCtl w).wellFormed cw = true := by
  rcases decodeCtl_cases w with h | h | h <;> rw [h] <;> rfl

/-- Settles O10: the step takes a control word, whose operation completes under I1 to I3. -/
theorem everyStateOfTheCoreHasASuccessor : Obligations.EveryStateOfTheCoreHasASuccessor := by
  intro s inv coreOnly
  obtain ⟨w, taken⟩ := CoreOnly.takeRequest_eq_ctl coreOnly
  have decoded : decode s.takeRequest.1 = .ok (decodeCtl w) := congrArg decode taken
  exact step_completes inv.valid inv.counters decoded (decodeCtl_wellFormed w _)

end Sys2Proof.Machine
end

section
/-! PROOF. Frames and independence: what an operation reads and writes (R10, R40, R58, R68). -/

namespace Sys2Proof.Machine

/-! ### The model's own fields -/

/-- No operation reads the model's own fields, and none writes `script` or `hostIx` (log 3, log 4). -/
theorem exec_overlay {i : Instr} {s t : State} (h : exec i s = .next t) (r : Ret) (p : List Request) (n : Nat) :
    exec i { s with ret := r, script := p, hostIx := n } = .next { t with script := p, hostIx := n } := by
  cases i with
  | hold =>
    obtain rfl := exec_hold_eq_next.1 h
    rfl
  | reset =>
    obtain rfl := exec_reset_eq_next.1 h
    rfl
  | tick =>
    obtain ⟨valid, inRange, rfl⟩ := exec_tick_eq_next.1 h
    exact exec_tick_eq_next.2 ⟨valid, inRange, rfl⟩
  | indTick =>
    obtain ⟨valid, below, rfl⟩ := exec_indTick_eq_next.1 h
    exact exec_indTick_eq_next.2 ⟨valid, below, rfl⟩
  | gateTick =>
    obtain ⟨valid, below, rfl⟩ := exec_gateTick_eq_next.1 h
    exact exec_gateTick_eq_next.2 ⟨valid, below, rfl⟩
  | pulseTick =>
    obtain ⟨valid, below, rfl⟩ := exec_pulseTick_eq_next.1 h
    exact exec_pulseTick_eq_next.2 ⟨valid, below, rfl⟩
  | updSpool enabled =>
    obtain ⟨valid, rfl⟩ := exec_updSpool_eq_next.1 h
    exact exec_updSpool_eq_next.2 ⟨valid, rfl⟩
  | updGuide enabled pulseActive =>
    obtain ⟨valid, rfl⟩ := exec_updGuide_eq_next.1 h
    exact exec_updGuide_eq_next.2 ⟨valid, rfl⟩
  | nextLevel current target maxStep =>
    obtain rfl := exec_nextLevel_eq_next.1 h
    rfl
  | updateAxis axis fwdTarget revTarget maxAcc =>
    obtain rfl := exec_updateAxis_eq_next.1 h
    rfl
  | dccTick c on off =>
    obtain ⟨domain, rfl⟩ := exec_dccTick_eq_next.1 h
    exact exec_dccTick_eq_next.2 ⟨domain, rfl⟩

/-- Laid over with its own fields the state is itself, so the operation's answer has them too. -/
theorem exec_keeps_requests {i : Instr} {s t : State} (h : exec i s = .next t) :
    t.script = s.script ∧ t.hostIx = s.hostIx := by
  have same : t = { t with script := s.script, hostIx := s.hostIx } :=
    Host.Outcome.next.inj (h.symm.trans (exec_overlay h s.ret s.script s.hostIx))
  exact ⟨(congrArg State.script same :), (congrArg State.hostIx same :)⟩

theorem eq_overlay_of_sameCore {s t : State} (h : SameCore s t) :
    t = { s with ret := t.ret, script := t.script, hostIx := t.hostIx } := by
  cases s
  cases t
  simp only [SameCore] at h
  obtain ⟨rfl, rfl, rfl, rfl, rfl, rfl, rfl, rfl, rfl⟩ := h
  rfl

/-- Settles O41: the second state is the first with other fields of the model's own, which no operation reads. -/
theorem registersAndOperationDetermineTheResult : Obligations.RegistersAndOperationDetermineTheResult := by
  intro i s t s' same h
  rw [eq_overlay_of_sameCore same]
  exact ⟨_, exec_overlay h _ _ _, ⟨rfl, rfl, rfl, rfl, rfl, rfl, rfl, rfl, rfl⟩, rfl⟩

/-! ### The writers of each register -/

/-- A function unit's next state is the state with an answer. -/
theorem exec_fn_eq_answer {i : Instr} {s t : State} (fn : i.format = .fn) (h : exec i s = .next t) :
    t = s.answer t.ret := by
  cases i with
  | nextLevel current target maxStep =>
    obtain rfl := exec_nextLevel_eq_next.1 h
    rfl
  | updateAxis axis fwdTarget revTarget maxAcc =>
    obtain rfl := exec_updateAxis_eq_next.1 h
    rfl
  | dccTick c on off =>
    obtain ⟨-, rfl⟩ := exec_dccTick_eq_next.1 h
    rfl
  | hold | tick | reset | indTick | gateTick | updSpool | pulseTick | updGuide => simp [Instr.format] at fn

/-- Settles O38: an answer is written to `ret` alone. -/
theorem functionUnitsTouchNoRegister : Obligations.FunctionUnitsTouchNoRegister :=
  fun _ _ _ fn h => exec_fn_eq_answer fn h

/-- What a state shares with another when only the named writers of a register may write it, `i` the operation run. -/
def OnlyWriters (i : Instr) (s t : State) : Prop :=
  (i ≠ .indTick → t.indCnt = s.indCnt ∧ t.lit = s.lit) ∧
  (i ≠ .gateTick → t.gateCnt = s.gateCnt) ∧
  (i ≠ .pulseTick → t.pulseCnt = s.pulseCnt) ∧
  ((∀ e, i ≠ .updSpool e) → t.spoolFwd = s.spoolFwd ∧ t.spoolRev = s.spoolRev) ∧
  ((∀ e p, i ≠ .updGuide e p) → t.guideFwd = s.guideFwd ∧ t.guideRev = s.guideRev)

theorem onlyWriters_answer (i : Instr) (s : State) (r : Ret) : OnlyWriters i s (s.answer r) :=
  ⟨fun _ => ⟨rfl, rfl⟩, fun _ => rfl, fun _ => rfl, fun _ => ⟨rfl, rfl⟩, fun _ => ⟨rfl, rfl⟩⟩

/-- R10: HOLD and the function units only answer; a slot's operation writes its own registers. -/
theorem exec_onlyWriters {i : Instr} {s t : State} (notReset : i ≠ .reset) (notTick : i ≠ .tick)
    (h : exec i s = .next t) : OnlyWriters i s t := by
  cases i with
  | reset => exact absurd rfl notReset
  | tick => exact absurd rfl notTick
  | hold =>
    obtain rfl := exec_hold_eq_next.1 h
    exact onlyWriters_answer _ s _
  | nextLevel | updateAxis | dccTick =>
    rw [exec_fn_eq_answer rfl h]
    exact onlyWriters_answer _ s _
  | indTick =>
    obtain ⟨-, -, rfl⟩ := exec_indTick_eq_next.1 h
    exact ⟨absurd rfl, fun _ => rfl, fun _ => rfl, fun _ => ⟨rfl, rfl⟩, fun _ => ⟨rfl, rfl⟩⟩
  | gateTick =>
    obtain ⟨-, -, rfl⟩ := exec_gateTick_eq_next.1 h
    exact ⟨fun _ => ⟨rfl, rfl⟩, absurd rfl, fun _ => rfl, fun _ => ⟨rfl, rfl⟩, fun _ => ⟨rfl, rfl⟩⟩
  | pulseTick =>
    obtain ⟨-, -, rfl⟩ := exec_pulseTick_eq_next.1 h
    exact ⟨fun _ => ⟨rfl, rfl⟩, fun _ => rfl, absurd rfl, fun _ => ⟨rfl, rfl⟩, fun _ => ⟨rfl, rfl⟩⟩
  | updSpool enabled =>
    obtain ⟨-, rfl⟩ := exec_updSpool_eq_next.1 h
    exact ⟨fun _ => ⟨rfl, rfl⟩, fun _ => rfl, fun _ => rfl, fun other => absurd rfl (other enabled),
      fun _ => ⟨rfl, rfl⟩⟩
  | updGuide enabled pulseActive =>
    obtain ⟨-, rfl⟩ := exec_updGuide_eq_next.1 h
    exact ⟨fun _ => ⟨rfl, rfl⟩, fun _ => rfl, fun _ => rfl, fun _ => ⟨rfl, rfl⟩,
      fun other => absurd rfl (other enabled pulseActive)⟩

/-- Settles O39: the registers by their writers, and the model's two fields by no operation. -/
theorem eachRegisterHasOnlyItsWriters : Obligations.EachRegisterHasOnlyItsWriters :=
  fun _ _ _ h => ⟨fun notReset notTick => exec_onlyWriters notReset notTick h, exec_keeps_requests h⟩

/-! ### A TICK's registers, each from its own inputs -/

/-- Settles O42: each register after a TICK is a function of `cfg` and of the inputs the clause names. -/
theorem countersAreIndependentInATick : Obligations.CountersAreIndependentInATick := by
  intro s t s' t' cfg hs ht
  obtain ⟨-, -, rfl⟩ := exec_tick_eq_next.1 hs
  obtain ⟨-, -, rfl⟩ := exec_tick_eq_next.1 ht
  refine ⟨fun ind => ⟨?ind, fun lit => ?lit⟩, fun gate => ?gate, fun pulse => ?pulse,
    fun gate fwd rev => Axis.mk.inj (?spool : (tickSlots s).spoolAxis = (tickSlots t).spoolAxis),
    fun gate pulse fwd rev => Axis.mk.inj (?guide : (tickSlots s).guideAxis = (tickSlots t).guideAxis)⟩
  case ind => rw [tickSlots_indCnt, tickSlots_indCnt, ind, cfg]
  case lit => rw [tickSlots_lit, tickSlots_lit, State.toggledNext, State.toggledNext, ind, lit, cfg]
  case gate => rw [tickSlots_gateCnt, tickSlots_gateCnt, gate, cfg]
  case pulse => rw [tickSlots_pulseCnt, tickSlots_pulseCnt, pulse, cfg]
  case spool =>
    rw [tickSlots_spoolAxis, tickSlots_spoolAxis]
    simp only [State.spoolAxis, State.enabledNext, gate, fwd, rev, cfg]
  case guide =>
    rw [tickSlots_guideAxis, tickSlots_guideAxis]
    simp only [State.guideAxis, State.enabledNext, State.pulseNext, gate, pulse, fwd, rev, cfg]

/-! ### The core's own requests -/

/-- A step leaves a part of the script's end: an operation places no request. -/
theorem step_script_suffix {s t : State} (h : step s = .next t) : t.script <:+ s.script := by
  obtain ⟨-, i, -, ran⟩ := step_eq_next h
  obtain ⟨rest, n, shorter, same⟩ := takeRequest_state s
  obtain ⟨script, -⟩ := exec_keeps_requests ran
  rw [script, same]
  exact shorter

/-- Settles O50: the step decoded a control word, and it placed no request. -/
theorem controlWordsAloneRunTopLevelOperations : Obligations.ControlWordsAloneRunTopLevelOperations := by
  intro s t coreOnly h
  obtain ⟨-, i, decoded, ran⟩ := step_eq_next h
  obtain ⟨w, taken⟩ := CoreOnly.takeRequest_eq_ctl coreOnly
  rw [taken] at decoded
  obtain rfl := Except.ok.inj decoded
  exact ⟨fun r placed => coreOnly r ((step_script_suffix h).mem placed), decodeCtl w, decodeCtl_cases w, ran⟩

end Sys2Proof.Machine
end

section
/-! PROOF. The number of TICKs since the last RESET as the form of all eight registers (R26 I7 and I8, R53, R55, R62):
RESET begins it, HOLD keeps it and TICK advances it by one. -/

namespace Sys2Proof.Machine

/-! ### The duty cycle in closed form -/

theorem dutyTick_iterate {on off : Nat} (pos : 1 ≤ on + off) (n : Nat) :
    (fun c => (dutyTick c on off).2)^[n] 0 = n % (on + off) := by
  induction n with
  | zero => exact (Nat.zero_mod _).symm
  | succ n ih =>
    rw [Function.iterate_succ_apply', ih]
    exact advance_mod pos n

/-- Settles O32: the counter is the residue of the number of calls, and one more call reads and advances it. -/
theorem dutyCycleRepeatsForEver : Obligations.DutyCycleRepeatsForEver := by
  refine fun on off pos n => ⟨dutyTick_iterate pos n, ?_⟩
  rw [dutyTick_iterate pos n]
  exact congrArg (Prod.mk _) (advance_mod pos n)

/-! ### One more tick index -/

/-- The number of completed half periods grows by one exactly on the boundary, so its parity flips there (R55). -/
theorem lit_after_tick {period : Nat} (pos : 0 < period) (k : Nat) :
    decide ((k + 1) / period % 2 = 1) =
      if decide (k % period + 1 = period) then !decide (k / period % 2 = 1) else decide (k / period % 2 = 1) := by
  have advanced := advance_mod pos k
  by_cases boundary : k % period + 1 = period
  · rw [advance_of_succ_eq boundary] at advanced
    rw [Nat.succ_div_of_dvd (Nat.dvd_of_mod_eq_zero advanced.symm), if_pos (decide_eq_true boundary), ← decide_not]
    exact decide_eq_decide.2 (by omega)
  · rw [advance_of_succ_ne boundary] at advanced
    have inside : ¬ period ∣ k + 1 := fun dvd => by
      rw [Nat.mod_eq_zero_of_dvd dvd] at advanced
      exact absurd advanced (Nat.succ_ne_zero _)
    rw [Nat.succ_div_of_not_dvd inside, if_neg (by simpa using boundary)]

/-- A ramp that has run since its phase began rises once more while the phase is true, and restarts when not (R62). -/
theorem nextLevel_runLength {current speed acc : Level} {phase : Nat → Bool} {k : Nat}
    (h : current.toNat = min speed.toNat (runLength phase k * acc.toNat)) :
    (nextLevel current (if phase k then speed else 0) acc).toNat =
      min speed.toNat (runLength phase (k + 1) * acc.toNat) := by
  rw [nextLevel_driven_toNat (phase k) acc (h ▸ Nat.min_le_left _ _), h, runLength]
  cases phase k with
  | true =>
    simp only [if_true, Nat.succ_mul]
    omega
  | false => simp

/-! ### The three control words -/

section words
variable {k : Nat} {s : State}

theorem AfterTicks.of_sameCore {t : State} (h : AfterTicks k s) (same : SameCore s t) : AfterTicks k t := by
  rw [eq_overlay_of_sameCore same]
  obtain ⟨ind, lit, gate, pulse, spoolFwd, spoolRev, guideFwd, guideRev⟩ := h
  exact ⟨ind, lit, gate, pulse, spoolFwd, spoolRev, guideFwd, guideRev⟩

theorem afterTicks_zero_of_reset (s : State) (r : Ret) : AfterTicks 0 (s.resetRegisters.answer r) := by
  constructor <;> simp [runLength]

/-- V1 to V3 make the periods positive, and each counter is a residue. -/
theorem AfterTicks.countersInRange (h : AfterTicks k s) (valid : CfgValid s.cfg) : CountersInRange s := by
  obtain ⟨⟨half, -⟩, ⟨enable, -⟩, ⟨guide, -⟩, -⟩ := valid
  rw [CountersInRange, h.ind, h.gate, h.pulse]
  exact ⟨Nat.mod_lt k half, Nat.mod_lt k enable, Nat.mod_lt k guide⟩

theorem AfterTicks.enabledNext (h : AfterTicks k s) : s.enabledNext = gatePhaseAt s.cfg k := by
  rw [State.enabledNext, h.gate, dutyPhase, gatePhaseAt]

theorem AfterTicks.pulseNext (h : AfterTicks k s) : s.pulseNext = pulsePhaseAt s.cfg k := by
  rw [State.pulseNext, h.pulse, dutyPhase, pulsePhaseAt]

theorem AfterTicks.tickSlots_spoolAxis (h : AfterTicks k s) :
    (tickSlots s).spoolAxis =
      ⟨nextLevel s.spoolFwd (if gatePhaseAt s.cfg k then s.cfg.spoolSpeed else 0) s.cfg.spoolAcc, 0⟩ := by
  rw [Machine.tickSlots_spoolAxis, h.enabledNext]
  exact updateAxis_of_rev_zero h.spoolRev _ _

theorem AfterTicks.tickSlots_guideAxis (h : AfterTicks k s) :
    (tickSlots s).guideAxis =
      ⟨nextLevel s.guideFwd (if gatePhaseAt s.cfg k && pulsePhaseAt s.cfg k then s.cfg.guideSpeed else 0)
        s.cfg.guideAcc, 0⟩ := by
  rw [Machine.tickSlots_guideAxis, h.enabledNext, h.pulseNext]
  exact updateAxis_of_rev_zero h.guideRev _ _

/-- R26 I7 and I8: a TICK is tick index k of each cycle. -/
theorem AfterTicks.tick (h : AfterTicks k s) (valid : CfgValid s.cfg) : AfterTicks (k + 1) (tickSlots s) := by
  obtain ⟨⟨half, -⟩, ⟨enable, -⟩, ⟨guide, -⟩, -⟩ := valid
  obtain ⟨spoolFwd, spoolRev⟩ := Axis.mk.inj h.tickSlots_spoolAxis
  obtain ⟨guideFwd, guideRev⟩ := Axis.mk.inj h.tickSlots_guideAxis
  refine ⟨?ind, ?lit, ?gate, ?pulse, ?spoolFwd, spoolRev, ?guideFwd, guideRev⟩
  case ind => rw [tickSlots_indCnt, h.ind, advance_mod half, tickSlots_cfg]
  case lit => rw [tickSlots_lit, State.toggledNext, h.ind, h.lit, tickSlots_cfg, lit_after_tick half]
  case gate => rw [tickSlots_gateCnt, h.gate, advance_mod enable, tickSlots_cfg]
  case pulse => rw [tickSlots_pulseCnt, h.pulse, advance_mod guide, tickSlots_cfg]
  case spoolFwd => rw [spoolFwd, tickSlots_cfg, nextLevel_runLength h.spoolFwd]
  case guideFwd =>
    rw [guideFwd, tickSlots_cfg]
    exact nextLevel_runLength (phase := fun n => gatePhaseAt s.cfg n && pulsePhaseAt s.cfg n) h.guideFwd

/-- Every control word completes in a state of the closed form, and leaves one (R67). -/
theorem AfterTicks.exec_decodeCtl (h : AfterTicks k s) (valid : CfgValid s.cfg) (w : Ctl) :
    ∃ t, exec (decodeCtl w) s = .next t ∧ AfterTicks (countAfterWord k w) t := by
  rcases decodeCtl_cases w with hold | tick | reset
  · simp only [countAfterWord, hold]
    exact ⟨_, exec_hold_eq_next.2 rfl, h.of_sameCore ⟨rfl, rfl, rfl, rfl, rfl, rfl, rfl, rfl, rfl⟩⟩
  · simp only [countAfterWord, tick]
    exact ⟨_, exec_tick_eq_next.2 ⟨valid, h.countersInRange valid, rfl⟩, h.tick valid⟩
  · simp only [countAfterWord, reset]
    exact ⟨_, exec_reset_eq_next.2 rfl, afterTicks_zero_of_reset s .nothing⟩

end words

/-- Settles O51: the step runs the word's operation on a state with the same registers. -/
theorem eachControlWordKeepsTheTickCountForm : Obligations.EachControlWordKeepsTheTickCountForm := by
  intro s s' k w valid h taken
  have same := takeRequest_sameCore s
  have ran : step s = exec (decodeCtl w) s.takeRequest.2 := step_of_decode_ok valid (by rw [taken]; rfl)
  rw [ran]
  exact (h.of_sameCore same).exec_decodeCtl (takeRequest_cfg s ▸ valid) w

/-- Settles O44: after RESET the registers are those of no tick, so the TICK is tick index 0. -/
theorem firstTickAfterResetIsEnabled : Obligations.FirstTickAfterResetIsEnabled := by
  intro s valid
  have reset := afterTicks_zero_of_reset s .nothing
  refine ⟨_, _, exec_reset_eq_next.2 rfl, exec_tick_eq_next.2 ⟨valid, reset.countersInRange valid, rfl⟩,
    ?observed, fun on => ?spool⟩
  case observed =>
    simp [State.toggledNext, State.enabledNext, State.pulseNext, dutyPhase_zero, eq_comm]
  case spool =>
    have phase : gatePhaseAt s.cfg 0 = true := decide_eq_true ((Nat.zero_mod _).trans_lt on)
    simpa [runLength, phase] using (reset.tick valid).spoolFwd

end Sys2Proof.Machine
end

section
/-! PROOF. Whole runs: a placed script word by word, the host's own words, and the two equivalences of runs (R44, R65 to
R68). -/

namespace Sys2Proof.Machine

/-! ### A run, step by step -/

theorem run_succ_of_step {s t : State} (h : step s = .next t) (k : Nat) :
    Host.Core.run Sys2Proof.core (k + 1) s = Host.Core.run Sys2Proof.core k t := by
  have stepped : Sys2Proof.core.step s = .next t := h
  simp only [Host.Core.run, stepped]

theorem run_succ_congr {s t : State} (h : step s = step t) (k : Nat) :
    Host.Core.run Sys2Proof.core (k + 1) s = Host.Core.run Sys2Proof.core (k + 1) t := by
  have stepped : Sys2Proof.core.step s = Sys2Proof.core.step t := h
  simp only [Host.Core.run, stepped]

/-- A predicate under which every step completes and which every step keeps holds at the end of every run. -/
theorem run_completes_of_step {P : State → Prop} (progress : ∀ s, P s → ∃ t, step s = .next t ∧ P t) (k : Nat)
    {s : State} (h : P s) : ∃ t, Host.Core.run Sys2Proof.core k s = .next t ∧ P t := by
  induction k generalizing s with
  | zero => exact ⟨s, rfl, h⟩
  | succ k ih =>
    obtain ⟨t, stepped, kept⟩ := progress s h
    rw [run_succ_of_step stepped]
    exact ih kept

/-- Settles O53: with control words alone every step completes, and it keeps both I1 to I6 and that premise. -/
theorem everyRunOfTheHostMeetsTheInvariant : Obligations.EveryRunOfTheHostMeetsTheInvariant := by
  intro c k valid
  have progress (s : State) (h : Inv s ∧ CoreOnly s) : ∃ t, step s = .next t ∧ Inv t ∧ CoreOnly t := by
    obtain ⟨inv, coreOnly⟩ := h
    obtain ⟨t, stepped⟩ := everyStateOfTheCoreHasASuccessor s inv coreOnly
    obtain ⟨stillCoreOnly, -⟩ := controlWordsAloneRunTopLevelOperations s t coreOnly stepped
    exact ⟨t, stepped, everyStepKeepsTheReachabilityInvariant s t inv stepped, stillCoreOnly⟩
  have nothingPlaced : CoreOnly (State.resetWith c) := fun _ placed => absurd placed List.not_mem_nil
  have started := resetMeetsTheReachabilityInvariant c valid
  obtain ⟨t, ran, inv, -⟩ := run_completes_of_step progress k ⟨started, nothingPlaced⟩
  exact ⟨t, ran, inv⟩

/-! ### A run of placed words -/

section words
variable {s t : State}

/-- Words placed for later steps neither change an operation nor are changed by it. -/
theorem exec_placeWords {i : Instr} (h : exec i s = .next t) (ws : List Ctl) :
    exec i (s.placeWords ws) = .next (t.placeWords ws) := by
  obtain ⟨script, hostIx⟩ := exec_keeps_requests h
  rw [State.placeWords, State.placeWords, script]
  exact (exec_overlay h s.ret _ s.hostIx).trans (by rw [← hostIx])

/-- A placed word is the next step's request, and the words after it stay placed. -/
theorem step_placeWords_cons {w : Ctl} {i : Instr} (valid : CfgValid s.cfg) (decoded : decodeCtl w = i)
    (ws : List Ctl) : step (s.placeWords (w :: ws)) = exec i (s.placeWords ws) :=
  step_of_script_cons (s := s.placeWords (w :: ws)) valid rfl (congrArg Except.ok decoded)

theorem run_placeWords_cons {w : Ctl} {i : Instr} (valid : CfgValid s.cfg) (decoded : decodeCtl w = i)
    (h : exec i s = .next t) (ws : List Ctl) (k : Nat) :
    Host.Core.run Sys2Proof.core (k + 1) (s.placeWords (w :: ws)) =
      Host.Core.run Sys2Proof.core k (t.placeWords ws) :=
  run_succ_of_step ((step_placeWords_cons valid decoded ws).trans (exec_placeWords h ws)) k

end words

/-- A placed script runs to its end, each word moving the number of TICKs as `countAfterWord` says. -/
theorem run_placeWords (ws : List Ctl) {k : Nat} {s : State} (valid : CfgValid s.cfg) (h : AfterTicks k s) :
    ∃ t, Host.Core.run Sys2Proof.core ws.length (s.placeWords ws) = .next t ∧
      AfterTicks (ws.foldl countAfterWord k) t ∧ t.cfg = s.cfg ∧ t.script = s.script := by
  induction ws generalizing k s with
  | nil => exact ⟨s, rfl, h, rfl, rfl⟩
  | cons w ws ih =>
    obtain ⟨u, ran, after⟩ := h.exec_decodeCtl valid w
    have cfg := exec_keeps_cfg ran
    obtain ⟨script, -⟩ := exec_keeps_requests ran
    rw [List.length_cons, run_placeWords_cons valid rfl ran, List.foldl_cons, ← cfg, ← script]
    exact ih (cfg ▸ valid) after

/-- Settles O52: the reset state is the form of no tick, with an empty script under the placed words. -/
theorem everyScriptEndsInTheTickCountForm : Obligations.EveryScriptEndsInTheTickCountForm :=
  fun c ws valid =>
    run_placeWords ws (s := State.resetWith c) valid (afterTicks_zero_of_reset (State.resetWith c) .nothing)

/-! ### The words of a script (R44) -/

theorem decodeCtl_hold : decodeCtl 0b00 = .hold := rfl
theorem decodeCtl_tick : decodeCtl 0b01 = .tick := rfl
theorem decodeCtl_reset : decodeCtl 0b10 = .reset := rfl

/-! ### HOLDs before a TICK, and repeated RESETs -/

/-- TICK does not read the value the operation before it returned (log 4). -/
theorem step_tick_answer {s : State} (valid : CfgValid s.cfg) (r : Ret) :
    step ((s.answer r).placeWords [0b01]) = step (s.placeWords [0b01]) :=
  calc step ((s.answer r).placeWords [0b01])
    _ = exec .tick ((s.answer r).placeWords []) := step_placeWords_cons valid decodeCtl_tick []
    _ = exec .tick (s.placeWords []) := rfl
    _ = step (s.placeWords [0b01]) := (step_placeWords_cons valid decodeCtl_tick []).symm

/-- Settles O54: each HOLD clears the returned value alone, which the TICK does not read. -/
theorem holdsBeforeATickAreInvisible : Obligations.HoldsBeforeATickAreInvisible := by
  intro s n valid
  induction n generalizing s with
  | zero => rfl
  | succ n ih =>
    rw [List.replicate_succ, List.cons_append, run_placeWords_cons valid decodeCtl_hold (exec_hold_eq_next.2 rfl),
      ih (s.answer .nothing) valid]
    exact run_succ_congr (step_tick_answer valid .nothing) 0

/-- A RESET after a RESET finds every register at its reset value. -/
theorem run_resets {s : State} (valid : CfgValid s.cfg) (n : Nat) :
    Host.Core.run Sys2Proof.core (n + 1) (s.placeWords (List.replicate (n + 1) 0b10)) =
      .next (s.resetRegisters.answer .nothing) := by
  induction n generalizing s with
  | zero => exact run_placeWords_cons valid decodeCtl_reset (exec_reset_eq_next.2 rfl) [] 0
  | succ n ih =>
    rw [List.replicate_succ, run_placeWords_cons valid decodeCtl_reset (exec_reset_eq_next.2 rfl)]
    exact ih (s := s.resetRegisters.answer .nothing) valid

/-- Settles O55: n RESETs and one RESET both end in the state that RESET answers. -/
theorem repeatedResetsAreOneReset : Obligations.RepeatedResetsAreOneReset := by
  intro s n valid repeated
  obtain ⟨n, rfl⟩ := Nat.exists_eq_add_of_le' repeated
  rw [expandScript_single]
  exact (run_resets valid n).trans (run_resets valid 0).symm

end Sys2Proof.Machine
end
